-- ==== Sys2Proof/Word.lean ====
section
/-! DEFINITION. The word types of the CORE and the shape of its two memories. -/

namespace Sys2Proof

/-- One event word of format `EVT16` (R91). -/
abbrev EventWord := BitVec 16

/-- One symbol of format `SYM5` (R94), as its accumulator value (R63). -/
abbrev Symbol5 := BitVec 5

/-- One symbol of format `SYM7` (R94), as its accumulator value (R63). -/
abbrev Symbol7 := BitVec 7

/-- One captured bit, a 0/1 sample (R16). -/
abbrev Bit := BitVec 1

/-- One output character: an ASCII code zero-extended to 8 bits (R12). -/
abbrev Char8 := BitVec 8

/-- The cells of a memory of `w`-bit cells: (index, value) pairs. Only a list whose indexes strictly
rise is a memory (`Machine.Memory.wf`); an index that is not listed has no value. With `w = 8` this is
a list of `Host.Cell`. -/
abbrev Cells (w : Nat) := List (Nat × BitVec w)

end Sys2Proof
end

