-- ==== Sys2Proof/Machine/Memory.lean ====
section
/-! DEFINITION. The two memories as lists of (index, cell) pairs in one canonical form: indexes strictly
rising. An index that is not listed has no value, so no entry can equal what an unlisted index reads as. -/

namespace Sys2Proof.Machine

/-- The canonical form of a memory: indexes strictly rising. -/
def Memory.wf {w : Nat} (m : Cells w) : Bool :=
  decide (m.Pairwise fun a b => a.1 < b.1)

/-- The cell at index `i`; no value where nothing has been written (log 4). -/
def Memory.read? {w : Nat} (m : Cells w) (i : Nat) : Option (BitVec w) :=
  match m with
  | [] => none
  | (j, v) :: rest => if i = j then some v else Memory.read? rest i

/-- Store `v` in cell `i`, keeping the canonical form. -/
def Memory.write {w : Nat} (m : Cells w) (i : Nat) (v : BitVec w) : Cells w :=
  match m with
  | [] => [(i, v)]
  | (j, u) :: rest =>
    if i < j then (i, v) :: (j, u) :: rest
    else if i = j then (i, v) :: rest
    else (j, u) :: Memory.write rest i v

end Sys2Proof.Machine
end

