-- ==== Sys2Proof/Config.lean ====
section
/-! DEFINITION. What an implementation fixes: the parameter `BUF_CAP`, the fields of a Track Format
descriptor, and the free values. -/

namespace Sys2Proof

/-- The open parameters of R10. `bufCap` is `BUF_CAP`, the capacity of the capture buffer in bits, a
natural from 1 to 65535 (D1). The machine carries a `Config` unchanged, so that every statement is about
an arbitrary capacity (D1: "Every theorem should be stated for arbitrary `BUF_CAP`"). -/
structure Config where
  bufCap : Nat
deriving DecidableEq, Repr

/-- The default of R10: 768 bits. -/
def Config.standard : Config := { bufCap := 768 }

/-- A Track Format descriptor (R11): symbol width, mask, start-sentinel value of the accumulator,
end-sentinel character, and the character of a symbol. The parity rule (odd) and the LRC rule (even) are
the same for every descriptor. -/
structure Descriptor where
  width   : Nat
  mask    : BitVec 8
  pattern : BitVec 8
  endChar : Char8
  map     : BitVec 8 → Option Char8

/-! Free values: constants with no body. Each is applied to the draw counter of the state. -/

/-- What `ACC` holds after an `HRESET` (R240: unspecified). -/
opaque Config.freeAcc : Nat → BitVec 8

/-- What `BITCNT` holds after an `HRESET` (R240: unspecified). -/
opaque Config.freeBitcnt : Nat → BitVec 3

/-- What `IDX` holds after an `HRESET` (R240: unspecified). -/
opaque Config.freeIdx : Nat → BitVec 16

/-- What `START` holds after an `HRESET` (R240: unspecified). -/
opaque Config.freeStart : Nat → BitVec 16

/-- What the not-found indication beside `START` holds after an `HRESET` (R36, R240: unspecified). -/
opaque Config.freeStartFound : Nat → Bool

/-- What `CNT` holds after an `HRESET` (R240: unspecified). -/
opaque Config.freeCnt : Nat → BitVec 8

/-- What the port `OUT_DATA(j)` shows where no record gives it a value (R28: "returning any value"). It
may depend on the draw counter, on what stands in `OUT`, and on `j`. -/
opaque Config.freeOutData : Nat → Cells 8 → BitVec 8 → Char8

end Sys2Proof
end

