-- ==== Sys2Proof/Machine/Flags.lean ====
section
/-! DEFINITION. The parity computations: the per-symbol parity of R153 and the column parity of R172. -/

namespace Sys2Proof.Machine

/-- `popcount(v)`: the number of 1 bits of `v` (R13). -/
def popcount {w : Nat} (v : BitVec w) : Nat :=
  ((List.range w).map fun i => (v.getLsbD i).toNat).sum

/-- `PARITY_OK(sym)`: an odd number of 1 bits over the full symbol, parity bit included (R153). -/
def parityOk (sym : BitVec 8) : Bool :=
  popcount sym % 2 == 1

/-- A column of the decoded run fails the LRC when its sum is odd (R172). -/
def columnOdd (sum : Nat) : Bool :=
  sum % 2 == 1

end Sys2Proof.Machine
end

