-- ==== Sys2Proof/Syntax.lean ====
section
/-! DEFINITION. The instructions: one constructor per row of the opcode table (8 event words, 32 `SYM5`
patterns, 128 `SYM7` patterns). -/

namespace Sys2Proof

/-- The two Track Formats (R3): 5-bit numeric and 7-bit alphanumeric symbols. -/
inductive Format where
  | num5
  | alpha7
deriving DecidableEq, Repr

/-- One constructor per row. The first eight are the events at the CORE's boundary (R9, R92); the rest
are the symbols the Character Demodulator reads from the captured bits (R96 to R99). A symbol
constructor's number is the character code of a legal symbol, the accumulator value of an illegal one. -/
inductive Instr where
  | beginFmt (fmt : Format)
  | stop
  | setlim (n : BitVec 8)
  | cardOn
  | cardOff
  | bit (b : Bit)
  | step
  | hreset
  | sym5Null
  | sym5Char30
  | sym5Char38
  | sym5Illegal03
  | sym5Char34
  | sym5Illegal05
  | sym5Illegal06
  | sym5Char3C
  | sym5Char32
  | sym5Illegal09
  | sym5Illegal0A
  | sym5Char3A
  | sym5Illegal0C
  | sym5Char36
  | sym5Char3E
  | sym5Illegal0F
  | sym5Char31
  | sym5Illegal11
  | sym5Illegal12
  | sym5Char39
  | sym5Illegal14
  | sym5Char35
  | sym5Char3D
  | sym5Illegal17
  | sym5Illegal18
  | sym5Char33
  | sym5Char3B
  | sym5Illegal1B
  | sym5Char37
  | sym5Illegal1D
  | sym5Illegal1E
  | sym5Char3F
  | sym7Null
  | sym7Char20
  | sym7Char40
  | sym7Illegal03
  | sym7Char30
  | sym7Illegal05
  | sym7Illegal06
  | sym7Char50
  | sym7Char28
  | sym7Illegal09
  | sym7Illegal0A
  | sym7Char48
  | sym7Illegal0C
  | sym7Char38
  | sym7Char58
  | sym7Illegal0F
  | sym7Char24
  | sym7Illegal11
  | sym7Illegal12
  | sym7Char44
  | sym7Illegal14
  | sym7Char34
  | sym7Char54
  | sym7Illegal17
  | sym7Illegal18
  | sym7Char2C
  | sym7Char4C
  | sym7Illegal1B
  | sym7Char3C
  | sym7Illegal1D
  | sym7Illegal1E
  | sym7Char5C
  | sym7Char22
  | sym7Illegal21
  | sym7Illegal22
  | sym7Char42
  | sym7Illegal24
  | sym7Char32
  | sym7Char52
  | sym7Illegal27
  | sym7Illegal28
  | sym7Char2A
  | sym7Char4A
  | sym7Illegal2B
  | sym7Char3A
  | sym7Illegal2D
  | sym7Illegal2E
  | sym7Char5A
  | sym7Illegal30
  | sym7Char26
  | sym7Char46
  | sym7Illegal33
  | sym7Char36
  | sym7Illegal35
  | sym7Illegal36
  | sym7Char56
  | sym7Char2E
  | sym7Illegal39
  | sym7Illegal3A
  | sym7Char4E
  | sym7Illegal3C
  | sym7Char3E
  | sym7Char5E
  | sym7Illegal3F
  | sym7Char21
  | sym7Illegal41
  | sym7Illegal42
  | sym7Char41
  | sym7Illegal44
  | sym7Char31
  | sym7Char51
  | sym7Illegal47
  | sym7Illegal48
  | sym7Char29
  | sym7Char49
  | sym7Illegal4B
  | sym7Char39
  | sym7Illegal4D
  | sym7Illegal4E
  | sym7Char59
  | sym7Illegal50
  | sym7Char25
  | sym7Char45
  | sym7Illegal53
  | sym7Char35
  | sym7Illegal55
  | sym7Illegal56
  | sym7Char55
  | sym7Char2D
  | sym7Illegal59
  | sym7Illegal5A
  | sym7Char4D
  | sym7Illegal5C
  | sym7Char3D
  | sym7Char5D
  | sym7Illegal5F
  | sym7Illegal60
  | sym7Char23
  | sym7Char43
  | sym7Illegal63
  | sym7Char33
  | sym7Illegal65
  | sym7Illegal66
  | sym7Char53
  | sym7Char2B
  | sym7Illegal69
  | sym7Illegal6A
  | sym7Char4B
  | sym7Illegal6C
  | sym7Char3B
  | sym7Char5B
  | sym7Illegal6F
  | sym7Char27
  | sym7Illegal71
  | sym7Illegal72
  | sym7Char47
  | sym7Illegal74
  | sym7Char37
  | sym7Char57
  | sym7Illegal77
  | sym7Illegal78
  | sym7Char2F
  | sym7Char4F
  | sym7Illegal7B
  | sym7Char3F
  | sym7Illegal7D
  | sym7Illegal7E
  | sym7Char5F
deriving DecidableEq, Repr

end Sys2Proof
end

