-- ==== Sys2Proof/Machine/Operands.lean ====
section
/-! DEFINITION. Operand assembly and the two Track Format descriptors: the accumulator update (R14, R63),
the bit reversal (R13), the numeric table (R96), the alphanumeric mapping (R97). -/

namespace Sys2Proof.Machine

/-- The accumulator update `((ACC << 1) & F.MASK) | b` (R14 (a), R95). -/
def accUpdate (F : Descriptor) (acc : BitVec 8) (b : Bit) : BitVec 8 :=
  ((acc <<< 1) &&& F.mask) ||| b.setWidth 8

/-- `rev_n(v)`: bit `i` of the result is bit `n-1-i` of `v`, for `i < n`; the other bits are 0 (R13). -/
def rev (n : Nat) (v : BitVec 8) : BitVec 8 :=
  (List.range n).foldl (fun r i => r ||| (BitVec.ofBool (v.getLsbD (n - 1 - i))).setWidth 8 <<< i) 0

/-- The data value of a symbol: the parity bit (accumulator bit 0) stripped and the remaining bits
reversed, `rev_(F.W-1)(sym >> 1)` (R64, R95). -/
def dataValue (width : Nat) (sym : BitVec 8) : BitVec 8 :=
  rev (width - 1) (sym >>> 1)

/-- The fixed 16-entry lookup table of the numeric format, in accumulator order (R96). -/
def num5Table : List (BitVec 8 × Char8) :=
  [ (0x01, 0x30), (0x02, 0x38), (0x04, 0x34), (0x07, 0x3C),
    (0x08, 0x32), (0x0B, 0x3A), (0x0D, 0x36), (0x0E, 0x3E),
    (0x10, 0x31), (0x13, 0x39), (0x15, 0x35), (0x16, 0x3D),
    (0x19, 0x33), (0x1A, 0x3B), (0x1C, 0x37), (0x1F, 0x3F) ]

/-- `NUM5.MAP` (R96): any pattern outside the table is invalid. -/
def num5Map (sym : BitVec 8) : Option Char8 :=
  num5Table.lookup sym

/-- `ALPHA7.MAP` (R97): the data value plus the offset `0x20`; total. -/
def alpha7Map (sym : BitVec 8) : Option Char8 :=
  some (dataValue 7 sym + 0x20)

/-- The descriptor `NUM5` (R11). -/
def num5 : Descriptor :=
  { width := 5, mask := 0x1F, pattern := 0x1A, endChar := 0x3F, map := num5Map }

/-- The descriptor `ALPHA7` (R11). -/
def alpha7 : Descriptor :=
  { width := 7, mask := 0x7F, pattern := 0x51, endChar := 0x3F, map := alpha7Map }

/-- The descriptor the register `FMT` selects (R24). -/
def descriptorOf : Format → Descriptor
  | .num5   => num5
  | .alpha7 => alpha7

end Sys2Proof.Machine
end

