-- ==== Sys2Proof/Machine/State.lean ====
section
/-! DEFINITION. The state of the CORE (R20), the reasons a step can stop, and the reset state (R41). -/

namespace Sys2Proof.Machine

/-- The register `STATE` (R27), in the order of its encoding 0 to 7. -/
inductive Phase where
  | idle
  | capturing
  | captureComplete
  | decodingFwd
  | decodingRev
  | successFwd
  | successRev
  | failure
deriving DecidableEq, Repr

/-- The register `DIR` (R31); the value 3 is never written and is not represented (U16). -/
inductive Direction where
  | unknown
  | forward
  | backward
deriving DecidableEq, Repr

/-- The error codes of R210, in the order of their values 0 to 8; 9 to 15 are never written and are not
represented (U16). -/
inductive ErrCode where
  | noError
  | noCardPresent
  | startSentinelNotFound
  | symbolParityError
  | outputBufferTooSmall
  | malformedTerminator
  | longitudinalParityError
  | captureOverflow
  | invalidSymbol
deriving DecidableEq, Repr

/-- The model's own field (log 5): whether the machine stands between events, or inside an orientation
attempt with the Character Demodulator about to read bits. No event leaves the machine demodulating:
`STEP` runs its whole attempt (R186, R187). -/
inductive Engine where
  | atRest
  | demodulating
deriving DecidableEq, Repr

/-- The state of the CORE: the registers and memories of R20, then the model's own fields. -/
structure State where
  /-- `BITS` (R21, R60). -/
  bits : Cells 1
  /-- `LEN` (R22). -/
  len : BitVec 16
  /-- `ARMED` (R23). -/
  armed : Bool
  /-- `FMT` (R24). -/
  fmt : Format
  /-- `SIZE_LIMIT` (R25). -/
  sizeLimit : BitVec 8
  /-- `CARD` (R26). -/
  card : Bool
  /-- `STATE` (R27). -/
  phase : Phase
  /-- `OUT` (R28, R61). -/
  out : Cells 8
  /-- `COUNT` (R29). -/
  count : BitVec 8
  /-- `OK` (R30). -/
  ok : Bool
  /-- `DIR` (R31). -/
  dir : Direction
  /-- `ERR_FWD` (R32). -/
  errFwd : ErrCode
  /-- `ERR_REV` (R33). -/
  errRev : ErrCode
  /-- `OVF` (R34). -/
  ovf : Bool
  /-- `HAZ` (R35). -/
  haz : Bool
  /-- `x[ACC]` (R36). -/
  acc : BitVec 8
  /-- `x[BITCNT]` (R36). -/
  bitcnt : BitVec 3
  /-- `x[IDX]` (R36, R37). -/
  idx : BitVec 16
  /-- `x[START]` (R36). -/
  start : BitVec 16
  /-- The indication beside `START` (R36): false is "not found". -/
  startFound : Bool
  /-- `x[CNT]` (R36). -/
  cnt : BitVec 8
  /-- The model's own: the parameters of R10, which no event writes (log 2). -/
  cfg : Config
  /-- The model's own: between events or inside an attempt (log 5). -/
  engine : Engine
  /-- The model's own: how often free values have been drawn (log 3). -/
  draws : Nat
  /-- The model's own: the schedule, the event words still to come, the next one first (R7, R9; log 1). -/
  input : List EventWord
deriving DecidableEq, Repr

/-- Why the machine stops with a fault: a memory access to which the spec gives no value (U5). Each is
SAFE: the rules never make such an access (R72), and a run that did would stop. -/
inductive Fault where
  /-- `BitRead(i)` with `i >= LEN` (R71, R72). Raised by `bitRead`. Safe. -/
  | bitReadOutOfRange (i : Nat)
  /-- A read of a cell of `BITS` that holds no value (R21). Raised by `bitRead`. Safe. -/
  | bitCellUnwritten (i : Nat)
  /-- `BitWrite(i, v)` with `i >= BUF_CAP` (R13, R60). Raised by `bitWrite`. Safe. -/
  | bitWriteOutOfRange (i : Nat)
  /-- `OutRead(j)` by the validator with `j >= CNT` (R71). Raised by `outRead`. Safe. -/
  | outReadOutOfRange (j : Nat)
  /-- A read of a cell of `OUT` that holds no value (R28). Raised by `outRead`. Safe. -/
  | outCellUnwritten (j : Nat)
deriving DecidableEq, Repr

/-- Why a step has no meaning. -/
inductive Refusal where
  /-- An instruction whose meaning is not written yet; raised by no arm of this model. Safe. -/
  | notModelled (mnemonic : String)
  /-- The next word of the schedule spells no event: "a model refuses a trace that contains one" (R93).
  Raised by `step`. Safe. -/
  | invalidEventWord (w : EventWord)
deriving DecidableEq, Repr

/-- The reset state (R41, R240). `BITS` and `OUT` list no cell (R41: unspecified); the working registers
are unspecified there, and the zeros named here are the model's (DESIGN CHOICE, log 3). The capacity is the
default of R10 (log 2), and no event is scheduled (log 1). -/
def State.reset : State where
  bits := []
  len := 0
  armed := false
  fmt := .num5
  sizeLimit := 0
  card := false
  phase := .idle
  out := []
  count := 0
  ok := false
  dir := .unknown
  errFwd := .noError
  errRev := .noError
  ovf := false
  haz := false
  acc := 0
  bitcnt := 0
  idx := 0
  start := 0
  startFound := false
  cnt := 0
  cfg := Config.standard
  engine := .atRest
  draws := 0
  input := []

end Sys2Proof.Machine
end

