-- ==== Sys2Proof/Machine/Ops.lean ====
section
/-! DEFINITION. The named operations the meanings share: the classes of `STATE`, the accesses to the two
memories, the buffer operations of 40_capture, `REVERSE`, and what ends an orientation attempt: taking a
decode error, and accepting a record. -/

namespace Sys2Proof.Machine

/-- What an instruction's meaning answers. -/
abbrev Result := Host.Outcome State Fault Refusal

/-- An operation that may have met an access without a value. -/
def ofExcept : Except Fault State → Result
  | .ok s => .next s
  | .error f => .fault f

/-! ### The classes of `STATE` (R16, R27) -/

/-- A quiet state: `IDLE`, `SUCCESS_FWD`, `SUCCESS_REV` or `FAILURE`. -/
def Phase.quiet : Phase → Bool
  | .idle | .successFwd | .successRev | .failure => true
  | .capturing | .captureComplete | .decodingFwd | .decodingRev => false

/-- A busy state: `CAPTURE_COMPLETE`, `DECODING_FWD` or `DECODING_REV`. -/
def Phase.busy : Phase → Bool
  | .captureComplete | .decodingFwd | .decodingRev => true
  | .idle | .capturing | .successFwd | .successRev | .failure => false

/-- The two states in which an orientation attempt runs (R186, R187). -/
def Phase.decoding : Phase → Bool
  | .decodingFwd | .decodingRev => true
  | .idle | .capturing | .captureComplete | .successFwd | .successRev | .failure => false

/-- The terminal states (R189). -/
def Phase.terminal : Phase → Bool
  | .successFwd | .successRev | .failure => true
  | .idle | .capturing | .captureComplete | .decodingFwd | .decodingRev => false

/-- The two states in which a Decoded Record is present (R30). -/
def Phase.success : Phase → Bool
  | .successFwd | .successRev => true
  | .idle | .capturing | .captureComplete | .decodingFwd | .decodingRev | .failure => false

/-! ### Accesses to the memories (R13, R66, R71, R78) -/

/-- `BitRead(i)`, also `at(i)` (R13, R126): a value only for `i < LEN` (R71, R72). -/
def bitRead (s : State) (i : Nat) : Except Fault Bit :=
  if i < s.len.toNat then
    match Memory.read? s.bits i with
    | some b => .ok b
    | none => .error (.bitCellUnwritten i)
  else .error (.bitReadOutOfRange i)

/-- `BitWrite(i, v)` (R13): requires `i < BUF_CAP`. -/
def bitWrite (s : State) (i : Nat) (v : Bit) : Except Fault State :=
  if i < s.cfg.bufCap then .ok { s with bits := Memory.write s.bits i v }
  else .error (.bitWriteOutOfRange i)

/-- `OutRead(j)` by the Record Validator (R13): a value only for `j < CNT` (R71). -/
def outRead (s : State) (j : Nat) : Except Fault Char8 :=
  if j < s.cnt.toNat then
    match Memory.read? s.out j with
    | some c => .ok c
    | none => .error (.outCellUnwritten j)
  else .error (.outReadOutOfRange j)

/-- `OutWrite(CNT, v)` (R13, R78): every 8-bit index is a cell of `OUT` (R61). -/
def outWriteAtCnt (s : State) (v : Char8) : State :=
  { s with out := Memory.write s.out s.cnt.toNat v }

/-! ### Events' effects on the control registers -/

/-- `HAZ <- 1` (R226). -/
def markHaz (s : State) : State :=
  { s with haz := true }

/-- `FMT <- fmt ; ARMED <- 1` (R120). -/
def arm (fmt : Format) (s : State) : State :=
  { s with fmt := fmt, armed := true }

/-- `ARMED <- 0` (R121). -/
def disarm (s : State) : State :=
  { s with armed := false }

/-- `SIZE_LIMIT <- n` (R122). -/
def setLimit (n : BitVec 8) (s : State) : State :=
  { s with sizeLimit := n }

/-- `CARD <- level` (R183, R184). -/
def latchCard (level : Bool) (s : State) : State :=
  { s with card := level }

/-- `STATE <- p` (R184, R185). -/
def setPhase (p : Phase) (s : State) : State :=
  { s with phase := p }

/-- `RESET_BUFFER` (R124): writes no cell of `BITS`. -/
def resetBuffer (s : State) : State :=
  { s with len := 0, ovf := false }

/-- The `CARDON` that starts a capture clears the Decoded Record and keeps `DIR` (R183). -/
def openCapture (s : State) : State :=
  { s with
    phase := .capturing, ok := false, count := 0, errFwd := .noError, errRev := .noError }

/-- `OVF <- 1`, nothing stored (R127). -/
def markOverflow (s : State) : State :=
  { s with ovf := true }

/-- `LEN <- LEN + 1` (R125). -/
def growBuffer (s : State) : State :=
  { s with len := s.len + 1 }

/-- `APPEND(b)` (R125, R127). -/
def append (b : Bit) (s : State) : Except Fault State :=
  if s.len.toNat < s.cfg.bufCap then do
    let s' ← bitWrite s s.len.toNat b
    .ok (growBuffer s')
  else .ok (markOverflow s)

/-! ### `REVERSE` (R182) -/

/-- One turn of the loop: swap bit `i` with bit `LEN-1-i`; both are read before either is written. -/
def swapPair (s : State) (i : Nat) : Except Fault State := do
  let a ← bitRead s i
  let b ← bitRead s (s.len.toNat - 1 - i)
  let s' ← bitWrite s i b
  bitWrite s' (s.len.toNat - 1 - i) a

/-- The turns `0 .. n-1` of the loop, in ascending order. -/
def reversePairs : Nat → State → Except Fault State
  | 0, s => .ok s
  | n + 1, s => do
    let s' ← reversePairs n s
    swapPair s' n

/-- `REVERSE()`: the whole valid prefix, in place (R182). -/
def reverse (s : State) : Except Fault State :=
  reversePairs (s.len.toNat / 2) s

/-! ### The end of an orientation attempt -/

/-- The result of `ATTEMPT` (R181): a record of `cnt` characters, or the error a check raised with its
explanatory argument, which no register keeps (R210). -/
inductive AttemptResult where
  | ok (cnt : BitVec 8)
  | err (e : ErrCode) (info : Nat)
deriving DecidableEq, Repr

/-- `ERR_FWD <- code(E)` (R186). -/
def recordFwdError (e : ErrCode) (s : State) : State :=
  { s with errFwd := e }

/-- `STATE <- DECODING_REV`, and the attempt is over (R186). -/
def enterReversed (s : State) : State :=
  { s with phase := .decodingRev, engine := .atRest }

/-- The failing arm of R187: the code, no record, `DIR <- UNKNOWN`, `STATE <- FAILURE`. -/
def enterFailure (e : ErrCode) (s : State) : State :=
  { s with
    errRev := e, count := 0, ok := false, dir := .unknown, phase := .failure, engine := .atRest }

/-- TAKING A DECODE ERROR (R221, R222): the attempt ends; the Direction Resolver, "the sole recovery
point", records the code, then reverses and retries (R186) or gives up (R187). There is no handler address
and nothing is saved. Outside the two decoding states no attempt runs and nothing is recorded. -/
def takeError (e : ErrCode) (s : State) : Except Fault State :=
  match s.phase with
  | .decodingFwd => do
    let s' ← reverse (recordFwdError e s)
    .ok (enterReversed s')
  | .decodingRev => .ok (enterFailure e s)
  | .idle | .capturing | .captureComplete | .successFwd | .successRev | .failure =>
    .ok { s with engine := .atRest }

/-- The success arm of R186. -/
def enterSuccessFwd (cnt : BitVec 8) (s : State) : State :=
  { s with
    errFwd := .noError, count := cnt, ok := true, dir := .forward, phase := .successFwd,
    engine := .atRest }

/-- The success arm of R187. -/
def enterSuccessRev (cnt : BitVec 8) (s : State) : State :=
  { s with
    errRev := .noError, count := cnt, ok := true, dir := .backward, phase := .successRev,
    engine := .atRest }

/-- Accepting the record of a successful attempt (R186, R187). -/
def acceptRecord (cnt : BitVec 8) (s : State) : State :=
  match s.phase with
  | .decodingFwd => enterSuccessFwd cnt s
  | .decodingRev => enterSuccessRev cnt s
  | .idle | .capturing | .captureComplete | .successFwd | .successRev | .failure =>
    { s with engine := .atRest }

/-- What the Direction Resolver does with the result of an attempt (R186, R187). -/
def resolveAttempt (r : AttemptResult) (s : State) : Except Fault State :=
  match r with
  | .ok cnt => .ok (acceptRecord cnt s)
  | .err e _ => takeError e s

end Sys2Proof.Machine
end

