-- ==== Sys2Proof/Machine/Capture.lean ====
section
/-! DEFINITION. The configuration events and the capture event: `BEGIN`, `STOP`, `SETLIM`, `BIT` (R120 to
R123). -/

namespace Sys2Proof.Machine

/-- `BEGIN fmt` (R120). -/
def execBegin (fmt : Format) (s : State) : Result :=
  if s.phase.quiet ∧ s.armed = false then .next (arm fmt s) else .next (markHaz s)

/-- `STOP` (R121). -/
def execStop (s : State) : Result :=
  .next (disarm s)

/-- `SETLIM n` (R122). -/
def execSetlim (n : BitVec 8) (s : State) : Result :=
  if s.phase.quiet then .next (setLimit n s) else .next (markHaz s)

/-- `BIT b` (R123). -/
def execBit (b : Bit) (s : State) : Result :=
  if s.armed = false then .next s
  else match s.phase with
    | .capturing => ofExcept (append b s)
    | .idle | .successFwd | .successRev | .failure => .next s
    | .captureComplete | .decodingFwd | .decodingRev => .next (markHaz s)

end Sys2Proof.Machine
end

