-- ==== Sys2Proof/Machine/Reset.lean ====
section
/-! DEFINITION. `HRESET` (R240). -/

namespace Sys2Proof.Machine

/-- The registers to which R240 gives a value, and the two memories, whose cells hold no value afterwards
(R41; log 4). -/
def resetRegisters (s : State) : State :=
  { s with
    bits := [], len := 0, armed := false, fmt := .num5, sizeLimit := 0, card := false, phase := .idle,
    out := [], count := 0, ok := false, dir := .unknown, errFwd := .noError, errRev := .noError,
    ovf := false, haz := false, engine := .atRest }

/-- The working registers after an `HRESET`: "unspecified" (R240), so free values (log 3). -/
def scrambleWork (s : State) : State :=
  { s with
    acc := Config.freeAcc s.draws, bitcnt := Config.freeBitcnt s.draws, idx := Config.freeIdx s.draws,
    start := Config.freeStart s.draws, startFound := Config.freeStartFound s.draws,
    cnt := Config.freeCnt s.draws, draws := s.draws + 1 }

/-- `HRESET` (R240): accepted in every state. -/
def execHreset (s : State) : Result :=
  .next (scrambleWork (resetRegisters s))

end Sys2Proof.Machine
end

