-- ==== Sys2Proof/Machine/Demodulator.lean ====
section
/-! DEFINITION. The Character Demodulator: `DEMOD` (R150 to R162), one bit, one symbol, and the loop. -/

namespace Sys2Proof.Machine

/-- How the demodulator goes on after a completed symbol. -/
inductive Turn where
  /-- The character is written; the next symbol follows (R157). -/
  | go
  /-- The null symbol: the loop ends without an error (R152). -/
  | stop
  /-- A check failed: `raise E(info)` (R153, R155, R156). -/
  | raised (e : ErrCode) (info : Nat)
deriving DecidableEq, Repr

/-- `CNT <- CNT + 1` (R157). -/
def countChar (s : State) : State :=
  { s with cnt := s.cnt + 1 }

/-- What `DEMOD` does with a completed symbol, in the order of R150: null (R152), parity (R153), mapping
(R154, R155), size (R156), write (R157). -/
def demodSymbol (F : Descriptor) (sym : BitVec 8) (s : State) : State × Turn :=
  if sym = 0 then (s, .stop)
  else if parityOk sym then
    match F.map sym with
    | none => (s, .raised .invalidSymbol s.cnt.toNat)
    | some ch =>
      if s.cnt < s.sizeLimit then (countChar (outWriteAtCnt s ch), .go)
      else (s, .raised .outputBufferTooSmall s.cnt.toNat)
  else (s, .raised .symbolParityError s.cnt.toNat)

/-- The bit completes no symbol: accumulator, `BITCNT + 1`, `IDX + 1` (R150). -/
def gatherOn (acc : BitVec 8) (s : State) : State :=
  { s with acc := acc, bitcnt := s.bitcnt + 1, idx := s.idx + 1 }

/-- The bit completes a symbol: `BITCNT <- 0` (R150). -/
def symbolComplete (acc : BitVec 8) (s : State) : State :=
  { s with acc := acc, bitcnt := 0, idx := s.idx + 1 }

/-- One bit of the loop of `DEMOD`: the bit at `IDX` enters the accumulator and `IDX` moves past it. True
when the bit completes a symbol, which is then in `ACC` (R150, R151). -/
def shiftIn (F : Descriptor) (s : State) : Except Fault (State × Bool) := do
  let b ← bitRead s s.idx.toNat
  let acc := accUpdate F s.acc b
  if s.bitcnt.toNat + 1 = F.width then .ok (symbolComplete acc s, true)
  else .ok (gatherOn acc s, false)

/-- The terminator `OUT[CNT] <- 0x00`, not counted and not subject to the size test (R158). -/
def terminate (s : State) : State :=
  outWriteAtCnt s 0

/-- The loop of `DEMOD` with `n` bits left before `LEN`. It ends at a null symbol, at an error, or at the
end of the buffer, where the bits of an incomplete symbol are dropped (R159). -/
def demodLoop (F : Descriptor) : Nat → State → Except Fault (State × AttemptResult)
  | 0, s => .ok (terminate s, .ok s.cnt)
  | n + 1, s => do
    let (s', complete) ← shiftIn F s
    if complete then
      match demodSymbol F s'.acc s' with
      | (s'', .go) => demodLoop F n s''
      | (s'', .stop) => .ok (terminate s'', .ok s''.cnt)
      | (s'', .raised e info) => .ok (s'', .err e info)
    else demodLoop F n s'

/-- `ACC <- 0 ; BITCNT <- 0 ; CNT <- 0`, `IDX` at `START` (R150). -/
def beginDemod (s : State) : State :=
  { s with acc := 0, bitcnt := 0, cnt := 0, idx := s.start }

/-- `DEMOD(F, START)` (R150). -/
def demod (F : Descriptor) (s : State) : Except Fault (State × AttemptResult) :=
  demodLoop F (s.len.toNat - s.start.toNat) (beginDemod s)

end Sys2Proof.Machine
end

