-- ==== Sys2Proof/Machine/Locator.lean ====
section
/-! DEFINITION. The Sentinel Locator: `FIND` (R140 to R143). -/

namespace Sys2Proof.Machine

/-- `START <- IDX - (F.W - 1)`, found at the index `IDX` (R140). -/
def foundHere (F : Descriptor) (acc : BitVec 8) (s : State) : State :=
  { s with acc := acc, start := s.idx - BitVec.ofNat 16 (F.width - 1), startFound := true }

/-- One bit taken in without a match: the accumulator, and `IDX` one further (R37). After a scan that finds
nothing `IDX` is therefore `LEN`; R36 leaves that value unspecified and the loop of R140 last holds `LEN-1`
(DESIGN CHOICE, log 3). -/
def scanOn (acc : BitVec 8) (s : State) : State :=
  { s with acc := acc, idx := s.idx + 1 }

/-- `not_found` (R140). `START` keeps what it held (R36: unspecified; DESIGN CHOICE, log 3). -/
def notFound (s : State) : State :=
  { s with startFound := false }

/-- The loop of `FIND` with `n` bits left to read; it leaves at the first match (R142). -/
def findLoop (F : Descriptor) : Nat → State → Except Fault State
  | 0, s => .ok (notFound s)
  | n + 1, s => do
    let b ← bitRead s s.idx.toNat
    let acc := accUpdate F s.acc b
    if acc = F.pattern then .ok (foundHere F acc s)
    else findLoop F n (scanOn acc s)

/-- `ACC <- 0`, `IDX` at 0 (R140). -/
def beginScan (s : State) : State :=
  { s with acc := 0, idx := 0 }

/-- `FIND(F)` (R140): the offset is left in `START`, or the not-found indication is set. -/
def find (F : Descriptor) (s : State) : Except Fault State :=
  findLoop F s.len.toNat (beginScan s)

end Sys2Proof.Machine
end

