-- ==== Sys2Proof/Machine/Validator.lean ====
section
/-! DEFINITION. The Record Validator: `ENDCHK` (R171) and `LRC` (R172), in that order (R173). -/

namespace Sys2Proof.Machine

/-- What a check answers: it passes, or `raise E(info)`. -/
inductive Check where
  | pass
  | raised (e : ErrCode) (info : Nat)
deriving DecidableEq, Repr

/-- `ENDCHK(F, CNT)` (R171): the second-to-last character must be the end sentinel; with fewer than two
characters there is none, and nothing is read. -/
def endchk (F : Descriptor) (s : State) : Except Fault Check :=
  if s.cnt.toNat < 2 then .ok (.raised .malformedTerminator s.cnt.toNat)
  else do
    let c ← outRead s (s.cnt.toNat - 2)
    if c = F.endChar then .ok .pass else .ok (.raised .malformedTerminator s.cnt.toNat)

/-- The sum of column `c` over the first `n` symbols of the run (R172). -/
def columnSum (F : Descriptor) (s : State) (c : Nat) : Nat → Except Fault Nat
  | 0 => .ok 0
  | n + 1 => do
    let sum ← columnSum F s c n
    let b ← bitRead s (s.start.toNat + c + n * F.width)
    .ok (sum + b.toNat)

/-- The columns `c`, `c+1`, …, `c+n-1` in ascending order; the first odd one is reported (R172). -/
def lrcFrom (F : Descriptor) (s : State) : Nat → Nat → Except Fault Check
  | _, 0 => .ok .pass
  | c, n + 1 => do
    let sum ← columnSum F s c s.cnt.toNat
    if columnOdd sum then .ok (.raised .longitudinalParityError c) else lrcFrom F s (c + 1) n

/-- `LRC(F, START, CNT)` (R172): columns `0` to `F.W - 2`, the parity column left out. -/
def lrc (F : Descriptor) (s : State) : Except Fault Check :=
  lrcFrom F s 0 (F.width - 1)

/-- The two checks in their order (R173); the second runs only if the first passes. -/
def validate (F : Descriptor) (s : State) : Except Fault AttemptResult := do
  match ← endchk F s with
  | .raised e info => .ok (.err e info)
  | .pass =>
    match ← lrc F s with
    | .raised e info => .ok (.err e info)
    | .pass => .ok (.ok s.cnt)

end Sys2Proof.Machine
end

