-- ==== Sys2Proof/Machine/Resolver.lean ====
section
/-! DEFINITION. The Direction Resolver: `ATTEMPT` (R181), the card-present events (R183, R184), the engine
step (R185 to R188), and one symbol of an attempt in progress. -/

namespace Sys2Proof.Machine

/-- `ATTEMPT(F)` (R181): `FIND`, `DEMOD`, `ENDCHK`, `LRC`; the first check that fails decides. -/
def attempt (F : Descriptor) (s : State) : Except Fault (State × AttemptResult) := do
  let s1 ← find F s
  if s1.startFound then
    let (s2, r) ← demod F s1
    match r with
    | .err e info => .ok (s2, .err e info)
    | .ok _ => do
      let r' ← validate F s2
      .ok (s2, r')
  else .ok (s1, .err .startSentinelNotFound s1.len.toNat)

/-- The attempt and what the Direction Resolver makes of it (R186, R187). -/
def runAttempt (F : Descriptor) (s : State) : Except Fault State := do
  let (s', r) ← attempt F s
  resolveAttempt r s'

/-- `CARDON` (R183). -/
def execCardOn (s : State) : Result :=
  if s.card then .next (latchCard true s)
  else if s.phase.quiet then .next (openCapture (resetBuffer (latchCard true s)))
  else .next (markHaz (latchCard true s))

/-- `CARDOFF` (R184). -/
def execCardOff (s : State) : Result :=
  if s.card ∧ s.phase = .capturing then .next (setPhase .captureComplete (latchCard false s))
  else .next (latchCard false s)

/-- `STEP` (R185 to R188). -/
def execStep (s : State) : Result :=
  match s.phase with
  | .captureComplete => .next (setPhase .decodingFwd s)
  | .decodingFwd => ofExcept (runAttempt (descriptorOf s.fmt) s)
  | .decodingRev => ofExcept (runAttempt (descriptorOf s.fmt) s)
  | .idle | .capturing | .successFwd | .successRev | .failure => .next s

/-! ### One symbol of an attempt in progress (log 5) -/

/-- The demodulator is about to read bits: the engine stands in an attempt, in a decoding state. -/
def demodulating (s : State) : Bool :=
  decide (s.engine = .demodulating) && s.phase.decoding

/-- The attempt that `FIND` has begun, standing before its first symbol (R150). -/
def enterDemod (s : State) : State :=
  { beginDemod s with engine := .demodulating }

/-- The end of the demodulator's loop without an error: the terminator (R158), the validator (R181), and
what the Direction Resolver makes of it (R186, R187). -/
def concludeRun (F : Descriptor) (s : State) : Except Fault State := do
  let r ← validate F (terminate s)
  resolveAttempt r (terminate s)

/-- The meaning of a completed symbol `sym` of format `fmt`: what `DEMOD` does with it (R152 to R157), and,
where that ends the attempt, the rest of the attempt (R158, R171, R172) and its resolution (R186, R187,
R222). A symbol has a meaning only to a demodulator that is reading that format (R90, R102); to any other
state it is nothing, and nothing changes (DESIGN CHOICE, log 5). -/
def symbolTurn (fmt : Format) (sym : BitVec 8) (s : State) : Result :=
  if demodulating s ∧ s.fmt = fmt then
    match demodSymbol (descriptorOf fmt) sym s with
    | (s', .go) => .next s'
    | (s', .stop) => ofExcept (concludeRun (descriptorOf fmt) s')
    | (s', .raised e _) => ofExcept (takeError e s')
  else .next s

end Sys2Proof.Machine
end

