-- ==== Sys2Proof/Machine/Sym5.lean ====
section
/-! DEFINITION. The meanings of the 32 `SYM5` patterns, the symbols of the numeric format. Each is
one turn of the Character Demodulator on that accumulator value. -/

namespace Sys2Proof.Machine

/-- `00000`, the null symbol: ends demodulation (R98, R152). -/
def execSym5Null (s : State) : Result :=
  symbolTurn .num5 0b00000000 s

/-- `00001`, the character `0x30` (R96, R153 to R157). -/
def execSym5Char30 (s : State) : Result :=
  symbolTurn .num5 0b00000001 s

/-- `00010`, the character `0x38` (R96, R153 to R157). -/
def execSym5Char38 (s : State) : Result :=
  symbolTurn .num5 0b00000010 s

/-- `00011`, even parity: `SymbolParityError` (R99, R153). -/
def execSym5Illegal03 (s : State) : Result :=
  symbolTurn .num5 0b00000011 s

/-- `00100`, the character `0x34` (R96, R153 to R157). -/
def execSym5Char34 (s : State) : Result :=
  symbolTurn .num5 0b00000100 s

/-- `00101`, even parity: `SymbolParityError` (R99, R153). -/
def execSym5Illegal05 (s : State) : Result :=
  symbolTurn .num5 0b00000101 s

/-- `00110`, even parity: `SymbolParityError` (R99, R153). -/
def execSym5Illegal06 (s : State) : Result :=
  symbolTurn .num5 0b00000110 s

/-- `00111`, the character `0x3C` (R96, R153 to R157). -/
def execSym5Char3C (s : State) : Result :=
  symbolTurn .num5 0b00000111 s

/-- `01000`, the character `0x32` (R96, R153 to R157). -/
def execSym5Char32 (s : State) : Result :=
  symbolTurn .num5 0b00001000 s

/-- `01001`, even parity: `SymbolParityError` (R99, R153). -/
def execSym5Illegal09 (s : State) : Result :=
  symbolTurn .num5 0b00001001 s

/-- `01010`, even parity: `SymbolParityError` (R99, R153). -/
def execSym5Illegal0A (s : State) : Result :=
  symbolTurn .num5 0b00001010 s

/-- `01011`, the character `0x3A` (R96, R153 to R157). -/
def execSym5Char3A (s : State) : Result :=
  symbolTurn .num5 0b00001011 s

/-- `01100`, even parity: `SymbolParityError` (R99, R153). -/
def execSym5Illegal0C (s : State) : Result :=
  symbolTurn .num5 0b00001100 s

/-- `01101`, the character `0x36` (R96, R153 to R157). -/
def execSym5Char36 (s : State) : Result :=
  symbolTurn .num5 0b00001101 s

/-- `01110`, the character `0x3E` (R96, R153 to R157). -/
def execSym5Char3E (s : State) : Result :=
  symbolTurn .num5 0b00001110 s

/-- `01111`, even parity: `SymbolParityError` (R99, R153). -/
def execSym5Illegal0F (s : State) : Result :=
  symbolTurn .num5 0b00001111 s

/-- `10000`, the character `0x31` (R96, R153 to R157). -/
def execSym5Char31 (s : State) : Result :=
  symbolTurn .num5 0b00010000 s

/-- `10001`, even parity: `SymbolParityError` (R99, R153). -/
def execSym5Illegal11 (s : State) : Result :=
  symbolTurn .num5 0b00010001 s

/-- `10010`, even parity: `SymbolParityError` (R99, R153). -/
def execSym5Illegal12 (s : State) : Result :=
  symbolTurn .num5 0b00010010 s

/-- `10011`, the character `0x39` (R96, R153 to R157). -/
def execSym5Char39 (s : State) : Result :=
  symbolTurn .num5 0b00010011 s

/-- `10100`, even parity: `SymbolParityError` (R99, R153). -/
def execSym5Illegal14 (s : State) : Result :=
  symbolTurn .num5 0b00010100 s

/-- `10101`, the character `0x35` (R96, R153 to R157). -/
def execSym5Char35 (s : State) : Result :=
  symbolTurn .num5 0b00010101 s

/-- `10110`, the character `0x3D` (R96, R153 to R157). -/
def execSym5Char3D (s : State) : Result :=
  symbolTurn .num5 0b00010110 s

/-- `10111`, even parity: `SymbolParityError` (R99, R153). -/
def execSym5Illegal17 (s : State) : Result :=
  symbolTurn .num5 0b00010111 s

/-- `11000`, even parity: `SymbolParityError` (R99, R153). -/
def execSym5Illegal18 (s : State) : Result :=
  symbolTurn .num5 0b00011000 s

/-- `11001`, the character `0x33` (R96, R153 to R157). -/
def execSym5Char33 (s : State) : Result :=
  symbolTurn .num5 0b00011001 s

/-- `11010`, the character `0x3B` (R96, R153 to R157). -/
def execSym5Char3B (s : State) : Result :=
  symbolTurn .num5 0b00011010 s

/-- `11011`, even parity: `SymbolParityError` (R99, R153). -/
def execSym5Illegal1B (s : State) : Result :=
  symbolTurn .num5 0b00011011 s

/-- `11100`, the character `0x37` (R96, R153 to R157). -/
def execSym5Char37 (s : State) : Result :=
  symbolTurn .num5 0b00011100 s

/-- `11101`, even parity: `SymbolParityError` (R99, R153). -/
def execSym5Illegal1D (s : State) : Result :=
  symbolTurn .num5 0b00011101 s

/-- `11110`, even parity: `SymbolParityError` (R99, R153). -/
def execSym5Illegal1E (s : State) : Result :=
  symbolTurn .num5 0b00011110 s

/-- `11111`, the character `0x3F` (R96, R153 to R157). -/
def execSym5Char3F (s : State) : Result :=
  symbolTurn .num5 0b00011111 s

end Sys2Proof.Machine
end

