-- ==== Sys2Proof/Machine/Sym7.lean ====
section
/-! DEFINITION. The meanings of the 128 `SYM7` patterns, the symbols of the alphanumeric format. Each is
one turn of the Character Demodulator on that accumulator value. -/

namespace Sys2Proof.Machine

/-- `0000000`, the null symbol: ends demodulation (R98, R152). -/
def execSym7Null (s : State) : Result :=
  symbolTurn .alpha7 0b00000000 s

/-- `0000001`, the character `0x20` (R97, R153 to R157). -/
def execSym7Char20 (s : State) : Result :=
  symbolTurn .alpha7 0b00000001 s

/-- `0000010`, the character `0x40` (R97, R153 to R157). -/
def execSym7Char40 (s : State) : Result :=
  symbolTurn .alpha7 0b00000010 s

/-- `0000011`, even parity: `SymbolParityError` (R99, R153). -/
def execSym7Illegal03 (s : State) : Result :=
  symbolTurn .alpha7 0b00000011 s

/-- `0000100`, the character `0x30` (R97, R153 to R157). -/
def execSym7Char30 (s : State) : Result :=
  symbolTurn .alpha7 0b00000100 s

/-- `0000101`, even parity: `SymbolParityError` (R99, R153). -/
def execSym7Illegal05 (s : State) : Result :=
  symbolTurn .alpha7 0b00000101 s

/-- `0000110`, even parity: `SymbolParityError` (R99, R153). -/
def execSym7Illegal06 (s : State) : Result :=
  symbolTurn .alpha7 0b00000110 s

/-- `0000111`, the character `0x50` (R97, R153 to R157). -/
def execSym7Char50 (s : State) : Result :=
  symbolTurn .alpha7 0b00000111 s

/-- `0001000`, the character `0x28` (R97, R153 to R157). -/
def execSym7Char28 (s : State) : Result :=
  symbolTurn .alpha7 0b00001000 s

/-- `0001001`, even parity: `SymbolParityError` (R99, R153). -/
def execSym7Illegal09 (s : State) : Result :=
  symbolTurn .alpha7 0b00001001 s

/-- `0001010`, even parity: `SymbolParityError` (R99, R153). -/
def execSym7Illegal0A (s : State) : Result :=
  symbolTurn .alpha7 0b00001010 s

/-- `0001011`, the character `0x48` (R97, R153 to R157). -/
def execSym7Char48 (s : State) : Result :=
  symbolTurn .alpha7 0b00001011 s

/-- `0001100`, even parity: `SymbolParityError` (R99, R153). -/
def execSym7Illegal0C (s : State) : Result :=
  symbolTurn .alpha7 0b00001100 s

/-- `0001101`, the character `0x38` (R97, R153 to R157). -/
def execSym7Char38 (s : State) : Result :=
  symbolTurn .alpha7 0b00001101 s

/-- `0001110`, the character `0x58` (R97, R153 to R157). -/
def execSym7Char58 (s : State) : Result :=
  symbolTurn .alpha7 0b00001110 s

/-- `0001111`, even parity: `SymbolParityError` (R99, R153). -/
def execSym7Illegal0F (s : State) : Result :=
  symbolTurn .alpha7 0b00001111 s

/-- `0010000`, the character `0x24` (R97, R153 to R157). -/
def execSym7Char24 (s : State) : Result :=
  symbolTurn .alpha7 0b00010000 s

/-- `0010001`, even parity: `SymbolParityError` (R99, R153). -/
def execSym7Illegal11 (s : State) : Result :=
  symbolTurn .alpha7 0b00010001 s

/-- `0010010`, even parity: `SymbolParityError` (R99, R153). -/
def execSym7Illegal12 (s : State) : Result :=
  symbolTurn .alpha7 0b00010010 s

/-- `0010011`, the character `0x44` (R97, R153 to R157). -/
def execSym7Char44 (s : State) : Result :=
  symbolTurn .alpha7 0b00010011 s

/-- `0010100`, even parity: `SymbolParityError` (R99, R153). -/
def execSym7Illegal14 (s : State) : Result :=
  symbolTurn .alpha7 0b00010100 s

/-- `0010101`, the character `0x34` (R97, R153 to R157). -/
def execSym7Char34 (s : State) : Result :=
  symbolTurn .alpha7 0b00010101 s

/-- `0010110`, the character `0x54` (R97, R153 to R157). -/
def execSym7Char54 (s : State) : Result :=
  symbolTurn .alpha7 0b00010110 s

/-- `0010111`, even parity: `SymbolParityError` (R99, R153). -/
def execSym7Illegal17 (s : State) : Result :=
  symbolTurn .alpha7 0b00010111 s

/-- `0011000`, even parity: `SymbolParityError` (R99, R153). -/
def execSym7Illegal18 (s : State) : Result :=
  symbolTurn .alpha7 0b00011000 s

/-- `0011001`, the character `0x2C` (R97, R153 to R157). -/
def execSym7Char2C (s : State) : Result :=
  symbolTurn .alpha7 0b00011001 s

/-- `0011010`, the character `0x4C` (R97, R153 to R157). -/
def execSym7Char4C (s : State) : Result :=
  symbolTurn .alpha7 0b00011010 s

/-- `0011011`, even parity: `SymbolParityError` (R99, R153). -/
def execSym7Illegal1B (s : State) : Result :=
  symbolTurn .alpha7 0b00011011 s

/-- `0011100`, the character `0x3C` (R97, R153 to R157). -/
def execSym7Char3C (s : State) : Result :=
  symbolTurn .alpha7 0b00011100 s

/-- `0011101`, even parity: `SymbolParityError` (R99, R153). -/
def execSym7Illegal1D (s : State) : Result :=
  symbolTurn .alpha7 0b00011101 s

/-- `0011110`, even parity: `SymbolParityError` (R99, R153). -/
def execSym7Illegal1E (s : State) : Result :=
  symbolTurn .alpha7 0b00011110 s

/-- `0011111`, the character `0x5C` (R97, R153 to R157). -/
def execSym7Char5C (s : State) : Result :=
  symbolTurn .alpha7 0b00011111 s

/-- `0100000`, the character `0x22` (R97, R153 to R157). -/
def execSym7Char22 (s : State) : Result :=
  symbolTurn .alpha7 0b00100000 s

/-- `0100001`, even parity: `SymbolParityError` (R99, R153). -/
def execSym7Illegal21 (s : State) : Result :=
  symbolTurn .alpha7 0b00100001 s

/-- `0100010`, even parity: `SymbolParityError` (R99, R153). -/
def execSym7Illegal22 (s : State) : Result :=
  symbolTurn .alpha7 0b00100010 s

/-- `0100011`, the character `0x42` (R97, R153 to R157). -/
def execSym7Char42 (s : State) : Result :=
  symbolTurn .alpha7 0b00100011 s

/-- `0100100`, even parity: `SymbolParityError` (R99, R153). -/
def execSym7Illegal24 (s : State) : Result :=
  symbolTurn .alpha7 0b00100100 s

/-- `0100101`, the character `0x32` (R97, R153 to R157). -/
def execSym7Char32 (s : State) : Result :=
  symbolTurn .alpha7 0b00100101 s

/-- `0100110`, the character `0x52` (R97, R153 to R157). -/
def execSym7Char52 (s : State) : Result :=
  symbolTurn .alpha7 0b00100110 s

/-- `0100111`, even parity: `SymbolParityError` (R99, R153). -/
def execSym7Illegal27 (s : State) : Result :=
  symbolTurn .alpha7 0b00100111 s

/-- `0101000`, even parity: `SymbolParityError` (R99, R153). -/
def execSym7Illegal28 (s : State) : Result :=
  symbolTurn .alpha7 0b00101000 s

/-- `0101001`, the character `0x2A` (R97, R153 to R157). -/
def execSym7Char2A (s : State) : Result :=
  symbolTurn .alpha7 0b00101001 s

/-- `0101010`, the character `0x4A` (R97, R153 to R157). -/
def execSym7Char4A (s : State) : Result :=
  symbolTurn .alpha7 0b00101010 s

/-- `0101011`, even parity: `SymbolParityError` (R99, R153). -/
def execSym7Illegal2B (s : State) : Result :=
  symbolTurn .alpha7 0b00101011 s

/-- `0101100`, the character `0x3A` (R97, R153 to R157). -/
def execSym7Char3A (s : State) : Result :=
  symbolTurn .alpha7 0b00101100 s

/-- `0101101`, even parity: `SymbolParityError` (R99, R153). -/
def execSym7Illegal2D (s : State) : Result :=
  symbolTurn .alpha7 0b00101101 s

/-- `0101110`, even parity: `SymbolParityError` (R99, R153). -/
def execSym7Illegal2E (s : State) : Result :=
  symbolTurn .alpha7 0b00101110 s

/-- `0101111`, the character `0x5A` (R97, R153 to R157). -/
def execSym7Char5A (s : State) : Result :=
  symbolTurn .alpha7 0b00101111 s

/-- `0110000`, even parity: `SymbolParityError` (R99, R153). -/
def execSym7Illegal30 (s : State) : Result :=
  symbolTurn .alpha7 0b00110000 s

/-- `0110001`, the character `0x26` (R97, R153 to R157). -/
def execSym7Char26 (s : State) : Result :=
  symbolTurn .alpha7 0b00110001 s

/-- `0110010`, the character `0x46` (R97, R153 to R157). -/
def execSym7Char46 (s : State) : Result :=
  symbolTurn .alpha7 0b00110010 s

/-- `0110011`, even parity: `SymbolParityError` (R99, R153). -/
def execSym7Illegal33 (s : State) : Result :=
  symbolTurn .alpha7 0b00110011 s

/-- `0110100`, the character `0x36` (R97, R153 to R157). -/
def execSym7Char36 (s : State) : Result :=
  symbolTurn .alpha7 0b00110100 s

/-- `0110101`, even parity: `SymbolParityError` (R99, R153). -/
def execSym7Illegal35 (s : State) : Result :=
  symbolTurn .alpha7 0b00110101 s

/-- `0110110`, even parity: `SymbolParityError` (R99, R153). -/
def execSym7Illegal36 (s : State) : Result :=
  symbolTurn .alpha7 0b00110110 s

/-- `0110111`, the character `0x56` (R97, R153 to R157). -/
def execSym7Char56 (s : State) : Result :=
  symbolTurn .alpha7 0b00110111 s

/-- `0111000`, the character `0x2E` (R97, R153 to R157). -/
def execSym7Char2E (s : State) : Result :=
  symbolTurn .alpha7 0b00111000 s

/-- `0111001`, even parity: `SymbolParityError` (R99, R153). -/
def execSym7Illegal39 (s : State) : Result :=
  symbolTurn .alpha7 0b00111001 s

/-- `0111010`, even parity: `SymbolParityError` (R99, R153). -/
def execSym7Illegal3A (s : State) : Result :=
  symbolTurn .alpha7 0b00111010 s

/-- `0111011`, the character `0x4E` (R97, R153 to R157). -/
def execSym7Char4E (s : State) : Result :=
  symbolTurn .alpha7 0b00111011 s

/-- `0111100`, even parity: `SymbolParityError` (R99, R153). -/
def execSym7Illegal3C (s : State) : Result :=
  symbolTurn .alpha7 0b00111100 s

/-- `0111101`, the character `0x3E` (R97, R153 to R157). -/
def execSym7Char3E (s : State) : Result :=
  symbolTurn .alpha7 0b00111101 s

/-- `0111110`, the character `0x5E` (R97, R153 to R157). -/
def execSym7Char5E (s : State) : Result :=
  symbolTurn .alpha7 0b00111110 s

/-- `0111111`, even parity: `SymbolParityError` (R99, R153). -/
def execSym7Illegal3F (s : State) : Result :=
  symbolTurn .alpha7 0b00111111 s

/-- `1000000`, the character `0x21` (R97, R153 to R157). -/
def execSym7Char21 (s : State) : Result :=
  symbolTurn .alpha7 0b01000000 s

/-- `1000001`, even parity: `SymbolParityError` (R99, R153). -/
def execSym7Illegal41 (s : State) : Result :=
  symbolTurn .alpha7 0b01000001 s

/-- `1000010`, even parity: `SymbolParityError` (R99, R153). -/
def execSym7Illegal42 (s : State) : Result :=
  symbolTurn .alpha7 0b01000010 s

/-- `1000011`, the character `0x41` (R97, R153 to R157). -/
def execSym7Char41 (s : State) : Result :=
  symbolTurn .alpha7 0b01000011 s

/-- `1000100`, even parity: `SymbolParityError` (R99, R153). -/
def execSym7Illegal44 (s : State) : Result :=
  symbolTurn .alpha7 0b01000100 s

/-- `1000101`, the character `0x31` (R97, R153 to R157). -/
def execSym7Char31 (s : State) : Result :=
  symbolTurn .alpha7 0b01000101 s

/-- `1000110`, the character `0x51` (R97, R153 to R157). -/
def execSym7Char51 (s : State) : Result :=
  symbolTurn .alpha7 0b01000110 s

/-- `1000111`, even parity: `SymbolParityError` (R99, R153). -/
def execSym7Illegal47 (s : State) : Result :=
  symbolTurn .alpha7 0b01000111 s

/-- `1001000`, even parity: `SymbolParityError` (R99, R153). -/
def execSym7Illegal48 (s : State) : Result :=
  symbolTurn .alpha7 0b01001000 s

/-- `1001001`, the character `0x29` (R97, R153 to R157). -/
def execSym7Char29 (s : State) : Result :=
  symbolTurn .alpha7 0b01001001 s

/-- `1001010`, the character `0x49` (R97, R153 to R157). -/
def execSym7Char49 (s : State) : Result :=
  symbolTurn .alpha7 0b01001010 s

/-- `1001011`, even parity: `SymbolParityError` (R99, R153). -/
def execSym7Illegal4B (s : State) : Result :=
  symbolTurn .alpha7 0b01001011 s

/-- `1001100`, the character `0x39` (R97, R153 to R157). -/
def execSym7Char39 (s : State) : Result :=
  symbolTurn .alpha7 0b01001100 s

/-- `1001101`, even parity: `SymbolParityError` (R99, R153). -/
def execSym7Illegal4D (s : State) : Result :=
  symbolTurn .alpha7 0b01001101 s

/-- `1001110`, even parity: `SymbolParityError` (R99, R153). -/
def execSym7Illegal4E (s : State) : Result :=
  symbolTurn .alpha7 0b01001110 s

/-- `1001111`, the character `0x59` (R97, R153 to R157). -/
def execSym7Char59 (s : State) : Result :=
  symbolTurn .alpha7 0b01001111 s

/-- `1010000`, even parity: `SymbolParityError` (R99, R153). -/
def execSym7Illegal50 (s : State) : Result :=
  symbolTurn .alpha7 0b01010000 s

/-- `1010001`, the character `0x25` (R97, R153 to R157). -/
def execSym7Char25 (s : State) : Result :=
  symbolTurn .alpha7 0b01010001 s

/-- `1010010`, the character `0x45` (R97, R153 to R157). -/
def execSym7Char45 (s : State) : Result :=
  symbolTurn .alpha7 0b01010010 s

/-- `1010011`, even parity: `SymbolParityError` (R99, R153). -/
def execSym7Illegal53 (s : State) : Result :=
  symbolTurn .alpha7 0b01010011 s

/-- `1010100`, the character `0x35` (R97, R153 to R157). -/
def execSym7Char35 (s : State) : Result :=
  symbolTurn .alpha7 0b01010100 s

/-- `1010101`, even parity: `SymbolParityError` (R99, R153). -/
def execSym7Illegal55 (s : State) : Result :=
  symbolTurn .alpha7 0b01010101 s

/-- `1010110`, even parity: `SymbolParityError` (R99, R153). -/
def execSym7Illegal56 (s : State) : Result :=
  symbolTurn .alpha7 0b01010110 s

/-- `1010111`, the character `0x55` (R97, R153 to R157). -/
def execSym7Char55 (s : State) : Result :=
  symbolTurn .alpha7 0b01010111 s

/-- `1011000`, the character `0x2D` (R97, R153 to R157). -/
def execSym7Char2D (s : State) : Result :=
  symbolTurn .alpha7 0b01011000 s

/-- `1011001`, even parity: `SymbolParityError` (R99, R153). -/
def execSym7Illegal59 (s : State) : Result :=
  symbolTurn .alpha7 0b01011001 s

/-- `1011010`, even parity: `SymbolParityError` (R99, R153). -/
def execSym7Illegal5A (s : State) : Result :=
  symbolTurn .alpha7 0b01011010 s

/-- `1011011`, the character `0x4D` (R97, R153 to R157). -/
def execSym7Char4D (s : State) : Result :=
  symbolTurn .alpha7 0b01011011 s

/-- `1011100`, even parity: `SymbolParityError` (R99, R153). -/
def execSym7Illegal5C (s : State) : Result :=
  symbolTurn .alpha7 0b01011100 s

/-- `1011101`, the character `0x3D` (R97, R153 to R157). -/
def execSym7Char3D (s : State) : Result :=
  symbolTurn .alpha7 0b01011101 s

/-- `1011110`, the character `0x5D` (R97, R153 to R157). -/
def execSym7Char5D (s : State) : Result :=
  symbolTurn .alpha7 0b01011110 s

/-- `1011111`, even parity: `SymbolParityError` (R99, R153). -/
def execSym7Illegal5F (s : State) : Result :=
  symbolTurn .alpha7 0b01011111 s

/-- `1100000`, even parity: `SymbolParityError` (R99, R153). -/
def execSym7Illegal60 (s : State) : Result :=
  symbolTurn .alpha7 0b01100000 s

/-- `1100001`, the character `0x23` (R97, R153 to R157). -/
def execSym7Char23 (s : State) : Result :=
  symbolTurn .alpha7 0b01100001 s

/-- `1100010`, the character `0x43` (R97, R153 to R157). -/
def execSym7Char43 (s : State) : Result :=
  symbolTurn .alpha7 0b01100010 s

/-- `1100011`, even parity: `SymbolParityError` (R99, R153). -/
def execSym7Illegal63 (s : State) : Result :=
  symbolTurn .alpha7 0b01100011 s

/-- `1100100`, the character `0x33` (R97, R153 to R157). -/
def execSym7Char33 (s : State) : Result :=
  symbolTurn .alpha7 0b01100100 s

/-- `1100101`, even parity: `SymbolParityError` (R99, R153). -/
def execSym7Illegal65 (s : State) : Result :=
  symbolTurn .alpha7 0b01100101 s

/-- `1100110`, even parity: `SymbolParityError` (R99, R153). -/
def execSym7Illegal66 (s : State) : Result :=
  symbolTurn .alpha7 0b01100110 s

/-- `1100111`, the character `0x53` (R97, R153 to R157). -/
def execSym7Char53 (s : State) : Result :=
  symbolTurn .alpha7 0b01100111 s

/-- `1101000`, the character `0x2B` (R97, R153 to R157). -/
def execSym7Char2B (s : State) : Result :=
  symbolTurn .alpha7 0b01101000 s

/-- `1101001`, even parity: `SymbolParityError` (R99, R153). -/
def execSym7Illegal69 (s : State) : Result :=
  symbolTurn .alpha7 0b01101001 s

/-- `1101010`, even parity: `SymbolParityError` (R99, R153). -/
def execSym7Illegal6A (s : State) : Result :=
  symbolTurn .alpha7 0b01101010 s

/-- `1101011`, the character `0x4B` (R97, R153 to R157). -/
def execSym7Char4B (s : State) : Result :=
  symbolTurn .alpha7 0b01101011 s

/-- `1101100`, even parity: `SymbolParityError` (R99, R153). -/
def execSym7Illegal6C (s : State) : Result :=
  symbolTurn .alpha7 0b01101100 s

/-- `1101101`, the character `0x3B` (R97, R153 to R157). -/
def execSym7Char3B (s : State) : Result :=
  symbolTurn .alpha7 0b01101101 s

/-- `1101110`, the character `0x5B` (R97, R153 to R157). -/
def execSym7Char5B (s : State) : Result :=
  symbolTurn .alpha7 0b01101110 s

/-- `1101111`, even parity: `SymbolParityError` (R99, R153). -/
def execSym7Illegal6F (s : State) : Result :=
  symbolTurn .alpha7 0b01101111 s

/-- `1110000`, the character `0x27` (R97, R153 to R157). -/
def execSym7Char27 (s : State) : Result :=
  symbolTurn .alpha7 0b01110000 s

/-- `1110001`, even parity: `SymbolParityError` (R99, R153). -/
def execSym7Illegal71 (s : State) : Result :=
  symbolTurn .alpha7 0b01110001 s

/-- `1110010`, even parity: `SymbolParityError` (R99, R153). -/
def execSym7Illegal72 (s : State) : Result :=
  symbolTurn .alpha7 0b01110010 s

/-- `1110011`, the character `0x47` (R97, R153 to R157). -/
def execSym7Char47 (s : State) : Result :=
  symbolTurn .alpha7 0b01110011 s

/-- `1110100`, even parity: `SymbolParityError` (R99, R153). -/
def execSym7Illegal74 (s : State) : Result :=
  symbolTurn .alpha7 0b01110100 s

/-- `1110101`, the character `0x37` (R97, R153 to R157). -/
def execSym7Char37 (s : State) : Result :=
  symbolTurn .alpha7 0b01110101 s

/-- `1110110`, the character `0x57` (R97, R153 to R157). -/
def execSym7Char57 (s : State) : Result :=
  symbolTurn .alpha7 0b01110110 s

/-- `1110111`, even parity: `SymbolParityError` (R99, R153). -/
def execSym7Illegal77 (s : State) : Result :=
  symbolTurn .alpha7 0b01110111 s

/-- `1111000`, even parity: `SymbolParityError` (R99, R153). -/
def execSym7Illegal78 (s : State) : Result :=
  symbolTurn .alpha7 0b01111000 s

/-- `1111001`, the character `0x2F` (R97, R153 to R157). -/
def execSym7Char2F (s : State) : Result :=
  symbolTurn .alpha7 0b01111001 s

/-- `1111010`, the character `0x4F` (R97, R153 to R157). -/
def execSym7Char4F (s : State) : Result :=
  symbolTurn .alpha7 0b01111010 s

/-- `1111011`, even parity: `SymbolParityError` (R99, R153). -/
def execSym7Illegal7B (s : State) : Result :=
  symbolTurn .alpha7 0b01111011 s

/-- `1111100`, the character `0x3F` (R97, R153 to R157). -/
def execSym7Char3F (s : State) : Result :=
  symbolTurn .alpha7 0b01111100 s

/-- `1111101`, even parity: `SymbolParityError` (R99, R153). -/
def execSym7Illegal7D (s : State) : Result :=
  symbolTurn .alpha7 0b01111101 s

/-- `1111110`, even parity: `SymbolParityError` (R99, R153). -/
def execSym7Illegal7E (s : State) : Result :=
  symbolTurn .alpha7 0b01111110 s

/-- `1111111`, the character `0x5F` (R97, R153 to R157). -/
def execSym7Char5F (s : State) : Result :=
  symbolTurn .alpha7 0b01111111 s

end Sys2Proof.Machine
end

