-- ==== Sys2Proof/Machine/Dispatch.lean ====
section
/-! DEFINITION. One arm per instruction, each a call of its own meaning. -/

namespace Sys2Proof.Machine

def exec (i : Instr) (s : State) : Host.Outcome State Fault Refusal :=
  match i with
  | .beginFmt fmt => Sys2Proof.Machine.execBegin fmt s
  | .stop => Sys2Proof.Machine.execStop s
  | .setlim n => Sys2Proof.Machine.execSetlim n s
  | .cardOn => Sys2Proof.Machine.execCardOn s
  | .cardOff => Sys2Proof.Machine.execCardOff s
  | .bit b => Sys2Proof.Machine.execBit b s
  | .step => Sys2Proof.Machine.execStep s
  | .hreset => Sys2Proof.Machine.execHreset s
  | .sym5Null => Sys2Proof.Machine.execSym5Null s
  | .sym5Char30 => Sys2Proof.Machine.execSym5Char30 s
  | .sym5Char38 => Sys2Proof.Machine.execSym5Char38 s
  | .sym5Illegal03 => Sys2Proof.Machine.execSym5Illegal03 s
  | .sym5Char34 => Sys2Proof.Machine.execSym5Char34 s
  | .sym5Illegal05 => Sys2Proof.Machine.execSym5Illegal05 s
  | .sym5Illegal06 => Sys2Proof.Machine.execSym5Illegal06 s
  | .sym5Char3C => Sys2Proof.Machine.execSym5Char3C s
  | .sym5Char32 => Sys2Proof.Machine.execSym5Char32 s
  | .sym5Illegal09 => Sys2Proof.Machine.execSym5Illegal09 s
  | .sym5Illegal0A => Sys2Proof.Machine.execSym5Illegal0A s
  | .sym5Char3A => Sys2Proof.Machine.execSym5Char3A s
  | .sym5Illegal0C => Sys2Proof.Machine.execSym5Illegal0C s
  | .sym5Char36 => Sys2Proof.Machine.execSym5Char36 s
  | .sym5Char3E => Sys2Proof.Machine.execSym5Char3E s
  | .sym5Illegal0F => Sys2Proof.Machine.execSym5Illegal0F s
  | .sym5Char31 => Sys2Proof.Machine.execSym5Char31 s
  | .sym5Illegal11 => Sys2Proof.Machine.execSym5Illegal11 s
  | .sym5Illegal12 => Sys2Proof.Machine.execSym5Illegal12 s
  | .sym5Char39 => Sys2Proof.Machine.execSym5Char39 s
  | .sym5Illegal14 => Sys2Proof.Machine.execSym5Illegal14 s
  | .sym5Char35 => Sys2Proof.Machine.execSym5Char35 s
  | .sym5Char3D => Sys2Proof.Machine.execSym5Char3D s
  | .sym5Illegal17 => Sys2Proof.Machine.execSym5Illegal17 s
  | .sym5Illegal18 => Sys2Proof.Machine.execSym5Illegal18 s
  | .sym5Char33 => Sys2Proof.Machine.execSym5Char33 s
  | .sym5Char3B => Sys2Proof.Machine.execSym5Char3B s
  | .sym5Illegal1B => Sys2Proof.Machine.execSym5Illegal1B s
  | .sym5Char37 => Sys2Proof.Machine.execSym5Char37 s
  | .sym5Illegal1D => Sys2Proof.Machine.execSym5Illegal1D s
  | .sym5Illegal1E => Sys2Proof.Machine.execSym5Illegal1E s
  | .sym5Char3F => Sys2Proof.Machine.execSym5Char3F s
  | .sym7Null => Sys2Proof.Machine.execSym7Null s
  | .sym7Char20 => Sys2Proof.Machine.execSym7Char20 s
  | .sym7Char40 => Sys2Proof.Machine.execSym7Char40 s
  | .sym7Illegal03 => Sys2Proof.Machine.execSym7Illegal03 s
  | .sym7Char30 => Sys2Proof.Machine.execSym7Char30 s
  | .sym7Illegal05 => Sys2Proof.Machine.execSym7Illegal05 s
  | .sym7Illegal06 => Sys2Proof.Machine.execSym7Illegal06 s
  | .sym7Char50 => Sys2Proof.Machine.execSym7Char50 s
  | .sym7Char28 => Sys2Proof.Machine.execSym7Char28 s
  | .sym7Illegal09 => Sys2Proof.Machine.execSym7Illegal09 s
  | .sym7Illegal0A => Sys2Proof.Machine.execSym7Illegal0A s
  | .sym7Char48 => Sys2Proof.Machine.execSym7Char48 s
  | .sym7Illegal0C => Sys2Proof.Machine.execSym7Illegal0C s
  | .sym7Char38 => Sys2Proof.Machine.execSym7Char38 s
  | .sym7Char58 => Sys2Proof.Machine.execSym7Char58 s
  | .sym7Illegal0F => Sys2Proof.Machine.execSym7Illegal0F s
  | .sym7Char24 => Sys2Proof.Machine.execSym7Char24 s
  | .sym7Illegal11 => Sys2Proof.Machine.execSym7Illegal11 s
  | .sym7Illegal12 => Sys2Proof.Machine.execSym7Illegal12 s
  | .sym7Char44 => Sys2Proof.Machine.execSym7Char44 s
  | .sym7Illegal14 => Sys2Proof.Machine.execSym7Illegal14 s
  | .sym7Char34 => Sys2Proof.Machine.execSym7Char34 s
  | .sym7Char54 => Sys2Proof.Machine.execSym7Char54 s
  | .sym7Illegal17 => Sys2Proof.Machine.execSym7Illegal17 s
  | .sym7Illegal18 => Sys2Proof.Machine.execSym7Illegal18 s
  | .sym7Char2C => Sys2Proof.Machine.execSym7Char2C s
  | .sym7Char4C => Sys2Proof.Machine.execSym7Char4C s
  | .sym7Illegal1B => Sys2Proof.Machine.execSym7Illegal1B s
  | .sym7Char3C => Sys2Proof.Machine.execSym7Char3C s
  | .sym7Illegal1D => Sys2Proof.Machine.execSym7Illegal1D s
  | .sym7Illegal1E => Sys2Proof.Machine.execSym7Illegal1E s
  | .sym7Char5C => Sys2Proof.Machine.execSym7Char5C s
  | .sym7Char22 => Sys2Proof.Machine.execSym7Char22 s
  | .sym7Illegal21 => Sys2Proof.Machine.execSym7Illegal21 s
  | .sym7Illegal22 => Sys2Proof.Machine.execSym7Illegal22 s
  | .sym7Char42 => Sys2Proof.Machine.execSym7Char42 s
  | .sym7Illegal24 => Sys2Proof.Machine.execSym7Illegal24 s
  | .sym7Char32 => Sys2Proof.Machine.execSym7Char32 s
  | .sym7Char52 => Sys2Proof.Machine.execSym7Char52 s
  | .sym7Illegal27 => Sys2Proof.Machine.execSym7Illegal27 s
  | .sym7Illegal28 => Sys2Proof.Machine.execSym7Illegal28 s
  | .sym7Char2A => Sys2Proof.Machine.execSym7Char2A s
  | .sym7Char4A => Sys2Proof.Machine.execSym7Char4A s
  | .sym7Illegal2B => Sys2Proof.Machine.execSym7Illegal2B s
  | .sym7Char3A => Sys2Proof.Machine.execSym7Char3A s
  | .sym7Illegal2D => Sys2Proof.Machine.execSym7Illegal2D s
  | .sym7Illegal2E => Sys2Proof.Machine.execSym7Illegal2E s
  | .sym7Char5A => Sys2Proof.Machine.execSym7Char5A s
  | .sym7Illegal30 => Sys2Proof.Machine.execSym7Illegal30 s
  | .sym7Char26 => Sys2Proof.Machine.execSym7Char26 s
  | .sym7Char46 => Sys2Proof.Machine.execSym7Char46 s
  | .sym7Illegal33 => Sys2Proof.Machine.execSym7Illegal33 s
  | .sym7Char36 => Sys2Proof.Machine.execSym7Char36 s
  | .sym7Illegal35 => Sys2Proof.Machine.execSym7Illegal35 s
  | .sym7Illegal36 => Sys2Proof.Machine.execSym7Illegal36 s
  | .sym7Char56 => Sys2Proof.Machine.execSym7Char56 s
  | .sym7Char2E => Sys2Proof.Machine.execSym7Char2E s
  | .sym7Illegal39 => Sys2Proof.Machine.execSym7Illegal39 s
  | .sym7Illegal3A => Sys2Proof.Machine.execSym7Illegal3A s
  | .sym7Char4E => Sys2Proof.Machine.execSym7Char4E s
  | .sym7Illegal3C => Sys2Proof.Machine.execSym7Illegal3C s
  | .sym7Char3E => Sys2Proof.Machine.execSym7Char3E s
  | .sym7Char5E => Sys2Proof.Machine.execSym7Char5E s
  | .sym7Illegal3F => Sys2Proof.Machine.execSym7Illegal3F s
  | .sym7Char21 => Sys2Proof.Machine.execSym7Char21 s
  | .sym7Illegal41 => Sys2Proof.Machine.execSym7Illegal41 s
  | .sym7Illegal42 => Sys2Proof.Machine.execSym7Illegal42 s
  | .sym7Char41 => Sys2Proof.Machine.execSym7Char41 s
  | .sym7Illegal44 => Sys2Proof.Machine.execSym7Illegal44 s
  | .sym7Char31 => Sys2Proof.Machine.execSym7Char31 s
  | .sym7Char51 => Sys2Proof.Machine.execSym7Char51 s
  | .sym7Illegal47 => Sys2Proof.Machine.execSym7Illegal47 s
  | .sym7Illegal48 => Sys2Proof.Machine.execSym7Illegal48 s
  | .sym7Char29 => Sys2Proof.Machine.execSym7Char29 s
  | .sym7Char49 => Sys2Proof.Machine.execSym7Char49 s
  | .sym7Illegal4B => Sys2Proof.Machine.execSym7Illegal4B s
  | .sym7Char39 => Sys2Proof.Machine.execSym7Char39 s
  | .sym7Illegal4D => Sys2Proof.Machine.execSym7Illegal4D s
  | .sym7Illegal4E => Sys2Proof.Machine.execSym7Illegal4E s
  | .sym7Char59 => Sys2Proof.Machine.execSym7Char59 s
  | .sym7Illegal50 => Sys2Proof.Machine.execSym7Illegal50 s
  | .sym7Char25 => Sys2Proof.Machine.execSym7Char25 s
  | .sym7Char45 => Sys2Proof.Machine.execSym7Char45 s
  | .sym7Illegal53 => Sys2Proof.Machine.execSym7Illegal53 s
  | .sym7Char35 => Sys2Proof.Machine.execSym7Char35 s
  | .sym7Illegal55 => Sys2Proof.Machine.execSym7Illegal55 s
  | .sym7Illegal56 => Sys2Proof.Machine.execSym7Illegal56 s
  | .sym7Char55 => Sys2Proof.Machine.execSym7Char55 s
  | .sym7Char2D => Sys2Proof.Machine.execSym7Char2D s
  | .sym7Illegal59 => Sys2Proof.Machine.execSym7Illegal59 s
  | .sym7Illegal5A => Sys2Proof.Machine.execSym7Illegal5A s
  | .sym7Char4D => Sys2Proof.Machine.execSym7Char4D s
  | .sym7Illegal5C => Sys2Proof.Machine.execSym7Illegal5C s
  | .sym7Char3D => Sys2Proof.Machine.execSym7Char3D s
  | .sym7Char5D => Sys2Proof.Machine.execSym7Char5D s
  | .sym7Illegal5F => Sys2Proof.Machine.execSym7Illegal5F s
  | .sym7Illegal60 => Sys2Proof.Machine.execSym7Illegal60 s
  | .sym7Char23 => Sys2Proof.Machine.execSym7Char23 s
  | .sym7Char43 => Sys2Proof.Machine.execSym7Char43 s
  | .sym7Illegal63 => Sys2Proof.Machine.execSym7Illegal63 s
  | .sym7Char33 => Sys2Proof.Machine.execSym7Char33 s
  | .sym7Illegal65 => Sys2Proof.Machine.execSym7Illegal65 s
  | .sym7Illegal66 => Sys2Proof.Machine.execSym7Illegal66 s
  | .sym7Char53 => Sys2Proof.Machine.execSym7Char53 s
  | .sym7Char2B => Sys2Proof.Machine.execSym7Char2B s
  | .sym7Illegal69 => Sys2Proof.Machine.execSym7Illegal69 s
  | .sym7Illegal6A => Sys2Proof.Machine.execSym7Illegal6A s
  | .sym7Char4B => Sys2Proof.Machine.execSym7Char4B s
  | .sym7Illegal6C => Sys2Proof.Machine.execSym7Illegal6C s
  | .sym7Char3B => Sys2Proof.Machine.execSym7Char3B s
  | .sym7Char5B => Sys2Proof.Machine.execSym7Char5B s
  | .sym7Illegal6F => Sys2Proof.Machine.execSym7Illegal6F s
  | .sym7Char27 => Sys2Proof.Machine.execSym7Char27 s
  | .sym7Illegal71 => Sys2Proof.Machine.execSym7Illegal71 s
  | .sym7Illegal72 => Sys2Proof.Machine.execSym7Illegal72 s
  | .sym7Char47 => Sys2Proof.Machine.execSym7Char47 s
  | .sym7Illegal74 => Sys2Proof.Machine.execSym7Illegal74 s
  | .sym7Char37 => Sys2Proof.Machine.execSym7Char37 s
  | .sym7Char57 => Sys2Proof.Machine.execSym7Char57 s
  | .sym7Illegal77 => Sys2Proof.Machine.execSym7Illegal77 s
  | .sym7Illegal78 => Sys2Proof.Machine.execSym7Illegal78 s
  | .sym7Char2F => Sys2Proof.Machine.execSym7Char2F s
  | .sym7Char4F => Sys2Proof.Machine.execSym7Char4F s
  | .sym7Illegal7B => Sys2Proof.Machine.execSym7Illegal7B s
  | .sym7Char3F => Sys2Proof.Machine.execSym7Char3F s
  | .sym7Illegal7D => Sys2Proof.Machine.execSym7Illegal7D s
  | .sym7Illegal7E => Sys2Proof.Machine.execSym7Illegal7E s
  | .sym7Char5F => Sys2Proof.Machine.execSym7Char5F s

end Sys2Proof.Machine
end

