-- ==== Sys2Proof/WellFormed.lean ====
section
/-! DEFINITION. The well-formedness checks of the spec: an event word spells an event, a configuration's
capacity is in range, and a descriptor meets the four conditions of R11. An instruction's operands have
exactly the widths the encoding gives them (`fmt`, `b`: one bit; `n`: eight bits), so no operand value
can be ill-formed and `Instr.wf` refuses nothing. -/

namespace Sys2Proof

/-- Every operand is well-formed by its type (R92: "Operands are unsigned and are used as they stand"). -/
def Instr.wf : Instr → Bool
  | _ => true

/-- `BUF_CAP` is a natural from 1 to 65535 (D1; R10 requires `BUF_CAP <= 65535`). -/
def Config.wf (c : Config) : Bool :=
  decide (1 ≤ c.bufCap) && decide (c.bufCap ≤ 65535)

/-- A well-formed descriptor (R11, D27): `2 <= F.W <= 8`; bit `F.W - 1` of `F.PATTERN` is 1; `F.PATTERN`
has odd parity; `F.MAP(F.PATTERN)` is a character. -/
def Descriptor.wf (F : Descriptor) : Bool :=
  decide (2 ≤ F.width) && decide (F.width ≤ 8) && decide (F.mask.toNat = 2 ^ F.width - 1)
    && F.pattern.getLsbD (F.width - 1) && Machine.parityOk F.pattern && (F.map F.pattern).isSome

end Sys2Proof
end

