-- ==== Sys2Proof/Decode.lean ====
section
/-! DEFINITION. Decoding and encoding: event words (R91 to R93) and symbols (R94 to R99). -/

namespace Sys2Proof

/-- One encoded instruction: an event word, or a symbol of one of the two formats. The format of a symbol
is not in its bits: it is the mode bit `FMT` that says which of the two a run of bits is (R90, R102). -/
inductive Code where
  | event (w : EventWord)
  | sym5 (v : Symbol5)
  | sym7 (v : Symbol7)
deriving DecidableEq, Repr

/-- Why a code spells no instruction (R93). -/
inductive Reject where
  /-- An event word with `OP` in `0x0`, `0x8` to `0xE`. -/
  | illegalOp (w : EventWord)
  /-- An event word with a legal `OP` and a non-zero must-be-zero bit. -/
  | mustBeZero (w : EventWord)
deriving DecidableEq, Repr

/-- `w` is the event of a row when `(w & mask) == match` (R92). -/
def rowMatches (mask value w : EventWord) : Bool :=
  w &&& mask == value

/-- The field `OP`, bits 15:12 (R91). -/
def opField (w : EventWord) : BitVec 4 :=
  w.extractLsb' 12 4

/-- The operand `fmt = w[0]` of `BEGIN` (R92): 0 is `NUM5`, 1 is `ALPHA7` (R24). -/
def fmtField (w : EventWord) : Format :=
  if w.getLsbD 0 then .alpha7 else .num5

/-- The operand `n = w[7:0]` of `SETLIM` (R92). -/
def limitField (w : EventWord) : BitVec 8 :=
  w.extractLsb' 0 8

/-- The operand `b = w[0]` of `BIT` (R92). -/
def bitField (w : EventWord) : Bit :=
  w.extractLsb' 0 1

/-- `OP` values that name an event (R92, R93). -/
def legalOp (op : BitVec 4) : Bool :=
  op == 0x1 || op == 0x2 || op == 0x3 || op == 0x4 || op == 0x5 || op == 0x6 || op == 0x7 || op == 0xF

/-- The event an event word spells; total, rejecting by name (R92, R93). -/
def decodeEvent (w : EventWord) : Except Reject Instr :=
  if rowMatches 0xFFFE 0x1000 w then .ok (.beginFmt (fmtField w))
  else if rowMatches 0xFFFF 0x2000 w then .ok .stop
  else if rowMatches 0xFF00 0x3000 w then .ok (.setlim (limitField w))
  else if rowMatches 0xFFFF 0x4000 w then .ok .cardOn
  else if rowMatches 0xFFFF 0x5000 w then .ok .cardOff
  else if rowMatches 0xFFFE 0x6000 w then .ok (.bit (bitField w))
  else if rowMatches 0xFFFF 0x7000 w then .ok .step
  else if rowMatches 0xFFFF 0xF000 w then .ok .hreset
  else if legalOp (opField w) then .error (.mustBeZero w)
  else .error (.illegalOp w)

/-- The disposition of the 32 `SYM5` patterns (R96, R98, R99), in accumulator order. -/
def sym5Rows : List Instr :=
  [ .sym5Null, .sym5Char30, .sym5Char38, .sym5Illegal03,
    .sym5Char34, .sym5Illegal05, .sym5Illegal06, .sym5Char3C,
    .sym5Char32, .sym5Illegal09, .sym5Illegal0A, .sym5Char3A,
    .sym5Illegal0C, .sym5Char36, .sym5Char3E, .sym5Illegal0F,
    .sym5Char31, .sym5Illegal11, .sym5Illegal12, .sym5Char39,
    .sym5Illegal14, .sym5Char35, .sym5Char3D, .sym5Illegal17,
    .sym5Illegal18, .sym5Char33, .sym5Char3B, .sym5Illegal1B,
    .sym5Char37, .sym5Illegal1D, .sym5Illegal1E, .sym5Char3F ]

/-- The disposition of the 128 `SYM7` patterns (R97 to R99), patterns `0x00` to `0x1F`. -/
def sym7Rows0 : List Instr :=
  [ .sym7Null, .sym7Char20, .sym7Char40, .sym7Illegal03,
    .sym7Char30, .sym7Illegal05, .sym7Illegal06, .sym7Char50,
    .sym7Char28, .sym7Illegal09, .sym7Illegal0A, .sym7Char48,
    .sym7Illegal0C, .sym7Char38, .sym7Char58, .sym7Illegal0F,
    .sym7Char24, .sym7Illegal11, .sym7Illegal12, .sym7Char44,
    .sym7Illegal14, .sym7Char34, .sym7Char54, .sym7Illegal17,
    .sym7Illegal18, .sym7Char2C, .sym7Char4C, .sym7Illegal1B,
    .sym7Char3C, .sym7Illegal1D, .sym7Illegal1E, .sym7Char5C ]

/-- The disposition of the 128 `SYM7` patterns (R97 to R99), patterns `0x20` to `0x3F`. -/
def sym7Rows1 : List Instr :=
  [ .sym7Char22, .sym7Illegal21, .sym7Illegal22, .sym7Char42,
    .sym7Illegal24, .sym7Char32, .sym7Char52, .sym7Illegal27,
    .sym7Illegal28, .sym7Char2A, .sym7Char4A, .sym7Illegal2B,
    .sym7Char3A, .sym7Illegal2D, .sym7Illegal2E, .sym7Char5A,
    .sym7Illegal30, .sym7Char26, .sym7Char46, .sym7Illegal33,
    .sym7Char36, .sym7Illegal35, .sym7Illegal36, .sym7Char56,
    .sym7Char2E, .sym7Illegal39, .sym7Illegal3A, .sym7Char4E,
    .sym7Illegal3C, .sym7Char3E, .sym7Char5E, .sym7Illegal3F ]

/-- The disposition of the 128 `SYM7` patterns (R97 to R99), patterns `0x40` to `0x5F`. -/
def sym7Rows2 : List Instr :=
  [ .sym7Char21, .sym7Illegal41, .sym7Illegal42, .sym7Char41,
    .sym7Illegal44, .sym7Char31, .sym7Char51, .sym7Illegal47,
    .sym7Illegal48, .sym7Char29, .sym7Char49, .sym7Illegal4B,
    .sym7Char39, .sym7Illegal4D, .sym7Illegal4E, .sym7Char59,
    .sym7Illegal50, .sym7Char25, .sym7Char45, .sym7Illegal53,
    .sym7Char35, .sym7Illegal55, .sym7Illegal56, .sym7Char55,
    .sym7Char2D, .sym7Illegal59, .sym7Illegal5A, .sym7Char4D,
    .sym7Illegal5C, .sym7Char3D, .sym7Char5D, .sym7Illegal5F ]

/-- The disposition of the 128 `SYM7` patterns (R97 to R99), patterns `0x60` to `0x7F`. -/
def sym7Rows3 : List Instr :=
  [ .sym7Illegal60, .sym7Char23, .sym7Char43, .sym7Illegal63,
    .sym7Char33, .sym7Illegal65, .sym7Illegal66, .sym7Char53,
    .sym7Char2B, .sym7Illegal69, .sym7Illegal6A, .sym7Char4B,
    .sym7Illegal6C, .sym7Char3B, .sym7Char5B, .sym7Illegal6F,
    .sym7Char27, .sym7Illegal71, .sym7Illegal72, .sym7Char47,
    .sym7Illegal74, .sym7Char37, .sym7Char57, .sym7Illegal77,
    .sym7Illegal78, .sym7Char2F, .sym7Char4F, .sym7Illegal7B,
    .sym7Char3F, .sym7Illegal7D, .sym7Illegal7E, .sym7Char5F ]

/-- The disposition of the 128 `SYM7` patterns (R97 to R99), in accumulator order. -/
def sym7Rows : List Instr :=
  sym7Rows0 ++ sym7Rows1 ++ sym7Rows2 ++ sym7Rows3

/-- The row of a `SYM5` pattern: every pattern has one (R99). -/
def decodeSym5 (v : Symbol5) : Instr :=
  sym5Rows.getD v.toNat .sym5Null

/-- The row of a `SYM7` pattern: every pattern has one (R99). -/
def decodeSym7 (v : Symbol7) : Instr :=
  sym7Rows.getD v.toNat .sym7Null

/-- The row of an accumulator value under the format `FMT` selects (R102). The accumulator holds no bit
above `F.W - 1` (R14), so nothing is cut off. -/
def symbolInstr (fmt : Format) (acc : BitVec 8) : Instr :=
  match fmt with
  | .num5   => decodeSym5 (acc.setWidth 5)
  | .alpha7 => decodeSym7 (acc.setWidth 7)

/-- The decoder: total, rejecting by name. -/
def decode : Code → Except Reject Instr
  | .event w => decodeEvent w
  | .sym5 v  => .ok (decodeSym5 v)
  | .sym7 v  => .ok (decodeSym7 v)

/-- The code of an instruction, written from the same tables (R92, R96, R97, R99). -/
def encode : Instr → Code
  | .beginFmt .num5 => .event 0x1000
  | .beginFmt .alpha7 => .event 0x1001
  | .stop => .event 0x2000
  | .setlim n => .event (0x3000 ||| n.setWidth 16)
  | .cardOn => .event 0x4000
  | .cardOff => .event 0x5000
  | .bit b => .event (0x6000 ||| b.setWidth 16)
  | .step => .event 0x7000
  | .hreset => .event 0xF000
  | .sym5Null => .sym5 0b00000
  | .sym5Char30 => .sym5 0b00001
  | .sym5Char38 => .sym5 0b00010
  | .sym5Illegal03 => .sym5 0b00011
  | .sym5Char34 => .sym5 0b00100
  | .sym5Illegal05 => .sym5 0b00101
  | .sym5Illegal06 => .sym5 0b00110
  | .sym5Char3C => .sym5 0b00111
  | .sym5Char32 => .sym5 0b01000
  | .sym5Illegal09 => .sym5 0b01001
  | .sym5Illegal0A => .sym5 0b01010
  | .sym5Char3A => .sym5 0b01011
  | .sym5Illegal0C => .sym5 0b01100
  | .sym5Char36 => .sym5 0b01101
  | .sym5Char3E => .sym5 0b01110
  | .sym5Illegal0F => .sym5 0b01111
  | .sym5Char31 => .sym5 0b10000
  | .sym5Illegal11 => .sym5 0b10001
  | .sym5Illegal12 => .sym5 0b10010
  | .sym5Char39 => .sym5 0b10011
  | .sym5Illegal14 => .sym5 0b10100
  | .sym5Char35 => .sym5 0b10101
  | .sym5Char3D => .sym5 0b10110
  | .sym5Illegal17 => .sym5 0b10111
  | .sym5Illegal18 => .sym5 0b11000
  | .sym5Char33 => .sym5 0b11001
  | .sym5Char3B => .sym5 0b11010
  | .sym5Illegal1B => .sym5 0b11011
  | .sym5Char37 => .sym5 0b11100
  | .sym5Illegal1D => .sym5 0b11101
  | .sym5Illegal1E => .sym5 0b11110
  | .sym5Char3F => .sym5 0b11111
  | .sym7Null => .sym7 0b0000000
  | .sym7Char20 => .sym7 0b0000001
  | .sym7Char40 => .sym7 0b0000010
  | .sym7Illegal03 => .sym7 0b0000011
  | .sym7Char30 => .sym7 0b0000100
  | .sym7Illegal05 => .sym7 0b0000101
  | .sym7Illegal06 => .sym7 0b0000110
  | .sym7Char50 => .sym7 0b0000111
  | .sym7Char28 => .sym7 0b0001000
  | .sym7Illegal09 => .sym7 0b0001001
  | .sym7Illegal0A => .sym7 0b0001010
  | .sym7Char48 => .sym7 0b0001011
  | .sym7Illegal0C => .sym7 0b0001100
  | .sym7Char38 => .sym7 0b0001101
  | .sym7Char58 => .sym7 0b0001110
  | .sym7Illegal0F => .sym7 0b0001111
  | .sym7Char24 => .sym7 0b0010000
  | .sym7Illegal11 => .sym7 0b0010001
  | .sym7Illegal12 => .sym7 0b0010010
  | .sym7Char44 => .sym7 0b0010011
  | .sym7Illegal14 => .sym7 0b0010100
  | .sym7Char34 => .sym7 0b0010101
  | .sym7Char54 => .sym7 0b0010110
  | .sym7Illegal17 => .sym7 0b0010111
  | .sym7Illegal18 => .sym7 0b0011000
  | .sym7Char2C => .sym7 0b0011001
  | .sym7Char4C => .sym7 0b0011010
  | .sym7Illegal1B => .sym7 0b0011011
  | .sym7Char3C => .sym7 0b0011100
  | .sym7Illegal1D => .sym7 0b0011101
  | .sym7Illegal1E => .sym7 0b0011110
  | .sym7Char5C => .sym7 0b0011111
  | .sym7Char22 => .sym7 0b0100000
  | .sym7Illegal21 => .sym7 0b0100001
  | .sym7Illegal22 => .sym7 0b0100010
  | .sym7Char42 => .sym7 0b0100011
  | .sym7Illegal24 => .sym7 0b0100100
  | .sym7Char32 => .sym7 0b0100101
  | .sym7Char52 => .sym7 0b0100110
  | .sym7Illegal27 => .sym7 0b0100111
  | .sym7Illegal28 => .sym7 0b0101000
  | .sym7Char2A => .sym7 0b0101001
  | .sym7Char4A => .sym7 0b0101010
  | .sym7Illegal2B => .sym7 0b0101011
  | .sym7Char3A => .sym7 0b0101100
  | .sym7Illegal2D => .sym7 0b0101101
  | .sym7Illegal2E => .sym7 0b0101110
  | .sym7Char5A => .sym7 0b0101111
  | .sym7Illegal30 => .sym7 0b0110000
  | .sym7Char26 => .sym7 0b0110001
  | .sym7Char46 => .sym7 0b0110010
  | .sym7Illegal33 => .sym7 0b0110011
  | .sym7Char36 => .sym7 0b0110100
  | .sym7Illegal35 => .sym7 0b0110101
  | .sym7Illegal36 => .sym7 0b0110110
  | .sym7Char56 => .sym7 0b0110111
  | .sym7Char2E => .sym7 0b0111000
  | .sym7Illegal39 => .sym7 0b0111001
  | .sym7Illegal3A => .sym7 0b0111010
  | .sym7Char4E => .sym7 0b0111011
  | .sym7Illegal3C => .sym7 0b0111100
  | .sym7Char3E => .sym7 0b0111101
  | .sym7Char5E => .sym7 0b0111110
  | .sym7Illegal3F => .sym7 0b0111111
  | .sym7Char21 => .sym7 0b1000000
  | .sym7Illegal41 => .sym7 0b1000001
  | .sym7Illegal42 => .sym7 0b1000010
  | .sym7Char41 => .sym7 0b1000011
  | .sym7Illegal44 => .sym7 0b1000100
  | .sym7Char31 => .sym7 0b1000101
  | .sym7Char51 => .sym7 0b1000110
  | .sym7Illegal47 => .sym7 0b1000111
  | .sym7Illegal48 => .sym7 0b1001000
  | .sym7Char29 => .sym7 0b1001001
  | .sym7Char49 => .sym7 0b1001010
  | .sym7Illegal4B => .sym7 0b1001011
  | .sym7Char39 => .sym7 0b1001100
  | .sym7Illegal4D => .sym7 0b1001101
  | .sym7Illegal4E => .sym7 0b1001110
  | .sym7Char59 => .sym7 0b1001111
  | .sym7Illegal50 => .sym7 0b1010000
  | .sym7Char25 => .sym7 0b1010001
  | .sym7Char45 => .sym7 0b1010010
  | .sym7Illegal53 => .sym7 0b1010011
  | .sym7Char35 => .sym7 0b1010100
  | .sym7Illegal55 => .sym7 0b1010101
  | .sym7Illegal56 => .sym7 0b1010110
  | .sym7Char55 => .sym7 0b1010111
  | .sym7Char2D => .sym7 0b1011000
  | .sym7Illegal59 => .sym7 0b1011001
  | .sym7Illegal5A => .sym7 0b1011010
  | .sym7Char4D => .sym7 0b1011011
  | .sym7Illegal5C => .sym7 0b1011100
  | .sym7Char3D => .sym7 0b1011101
  | .sym7Char5D => .sym7 0b1011110
  | .sym7Illegal5F => .sym7 0b1011111
  | .sym7Illegal60 => .sym7 0b1100000
  | .sym7Char23 => .sym7 0b1100001
  | .sym7Char43 => .sym7 0b1100010
  | .sym7Illegal63 => .sym7 0b1100011
  | .sym7Char33 => .sym7 0b1100100
  | .sym7Illegal65 => .sym7 0b1100101
  | .sym7Illegal66 => .sym7 0b1100110
  | .sym7Char53 => .sym7 0b1100111
  | .sym7Char2B => .sym7 0b1101000
  | .sym7Illegal69 => .sym7 0b1101001
  | .sym7Illegal6A => .sym7 0b1101010
  | .sym7Char4B => .sym7 0b1101011
  | .sym7Illegal6C => .sym7 0b1101100
  | .sym7Char3B => .sym7 0b1101101
  | .sym7Char5B => .sym7 0b1101110
  | .sym7Illegal6F => .sym7 0b1101111
  | .sym7Char27 => .sym7 0b1110000
  | .sym7Illegal71 => .sym7 0b1110001
  | .sym7Illegal72 => .sym7 0b1110010
  | .sym7Char47 => .sym7 0b1110011
  | .sym7Illegal74 => .sym7 0b1110100
  | .sym7Char37 => .sym7 0b1110101
  | .sym7Char57 => .sym7 0b1110110
  | .sym7Illegal77 => .sym7 0b1110111
  | .sym7Illegal78 => .sym7 0b1111000
  | .sym7Char2F => .sym7 0b1111001
  | .sym7Char4F => .sym7 0b1111010
  | .sym7Illegal7B => .sym7 0b1111011
  | .sym7Char3F => .sym7 0b1111100
  | .sym7Illegal7D => .sym7 0b1111101
  | .sym7Illegal7E => .sym7 0b1111110
  | .sym7Char5F => .sym7 0b1111111

/-- Whether every word of a trace spells an event: "a model refuses a trace that contains one" that does
not (R93). -/
def traceWf (ws : List EventWord) : Bool :=
  ws.all fun w => match decodeEvent w with
    | .ok _ => true
    | .error _ => false

/-- The code the table's numbering gives for `nbits` bits `w`. Sixteen bits are an event word. Five and
seven bits are a symbol of that format. A symbol that comes as ONE BYTE does not say its format (R102):
a byte below `0x20` is read as `SYM5`, the format of the reset state, and one from `0x20` to `0x7F` as
`SYM7` (DESIGN CHOICE, log 8). -/
def tableCode (nbits w : Nat) : Option Code :=
  if nbits = 16 then (if w < 65536 then some (.event (BitVec.ofNat 16 w)) else none)
  else if nbits = 5 then (if w < 32 then some (.sym5 (BitVec.ofNat 5 w)) else none)
  else if nbits = 7 then (if w < 128 then some (.sym7 (BitVec.ofNat 7 w)) else none)
  else if nbits = 8 then
    if w < 32 then some (.sym5 (BitVec.ofNat 5 w))
    else if w < 128 then some (.sym7 (BitVec.ofNat 7 w))
    else none
  else none

/-- The instruction the decoder reads from a table word. -/
def decodeTableWord (nbits w : Nat) : Option Instr :=
  match tableCode nbits w with
  | none => none
  | some c =>
    match decode c with
    | .ok i => some i
    | .error _ => none

end Sys2Proof
end

