-- ==== Sys2Proof/Machine/Fetch.lean ====
section
/-! DEFINITION. Where the next instruction comes from. Between events it is the next event word of the
schedule; inside an attempt it is the next symbol of `BITS` at `IDX`. -/

namespace Sys2Proof.Machine

/-- The bits from `IDX` on, up to the one that completes a symbol: the symbol's accumulator value (R63,
R95), or none if the buffer ends first (R159). `n` bits are left before `LEN`. -/
def gatherSymbol (F : Descriptor) : Nat → State → Except Fault (State × Option (BitVec 8))
  | 0, s => .ok (s, none)
  | n + 1, s => do
    let (s', complete) ← shiftIn F s
    if complete then .ok (s', some s'.acc) else gatherSymbol F n s'

/-- Fetching a symbol at `IDX`: `IDX` ends past the last bit read. -/
def fetchSymbol (F : Descriptor) (s : State) : Except Fault (State × Option (BitVec 8)) :=
  gatherSymbol F (s.len.toNat - s.idx.toNat) s

/-- What the machine finds to do next. -/
inductive Fetched where
  /-- An instruction, with the state after it has been fetched. -/
  | instr (i : Instr) (s : State)
  /-- The buffer has ended before another symbol was complete (R159). -/
  | endOfBuffer (s : State)
  /-- No event is scheduled. -/
  | waiting
  /-- The next word of the schedule spells no event (R93). -/
  | rejected (w : EventWord)
  /-- A read without a value. -/
  | faulted (f : Fault)
deriving DecidableEq, Repr

/-- The next symbol of the attempt in progress, decoded under the format `FMT` selects (R102). -/
def fetchFromBuffer (s : State) : Fetched :=
  match fetchSymbol (descriptorOf s.fmt) s with
  | .error f => .faulted f
  | .ok (s', none) => .endOfBuffer s'
  | .ok (s', some sym) => .instr (symbolInstr s.fmt sym) s'

/-- The next event word is taken off the schedule. -/
def dropWord (s : State) : State :=
  { s with input := s.input.tail }

/-- The next event of the schedule (R92, R93). -/
def fetchEvent (s : State) : Fetched :=
  match s.input with
  | [] => .waiting
  | w :: _ =>
    match decodeEvent w with
    | .ok i => .instr i (dropWord s)
    | .error _ => .rejected w

/-- The next instruction. An event is atomic (R7): while an attempt is in progress no event is taken. -/
def fetch (s : State) : Fetched :=
  if demodulating s then fetchFromBuffer s else fetchEvent s

/-! ### Placing one instruction where the machine fetches it -/

/-- The cells `i`, `i+1`, … hold the listed bits. -/
def storeBits (bits : List Bit) (i : Nat) (m : Cells 1) : Cells 1 :=
  match bits with
  | [] => m
  | b :: rest => storeBits rest (i + 1) (Memory.write m i b)

/-- The bits of a symbol in stream order, the most significant accumulator bit first (R63). -/
def streamBits {w : Nat} (v : BitVec w) : List Bit :=
  (List.range w).map fun i => BitVec.ofBool (v.getLsbD (w - 1 - i))

/-- The event word stands next on the schedule. -/
def placeEvent (w : EventWord) (s : State) : State :=
  { s with engine := .atRest, input := w :: s.input }

/-- A symbol of format `fmt` stands at the front of the buffer, and an attempt whose `FIND` has answered
offset 0 stands before it. A machine that is already in a decoding state stays in that state. -/
def placeSymbol {w : Nat} (fmt : Format) (v : BitVec w) (s : State) : State :=
  { s with
    fmt := fmt
    phase := if s.phase.decoding then s.phase else .decodingFwd
    bits := storeBits (streamBits v) 0 s.bits
    len := if s.len.toNat < w then BitVec.ofNat 16 w else s.len
    acc := 0, bitcnt := 0, cnt := 0, idx := 0, start := 0, startFound := true
    engine := .demodulating }

/-- A code placed where the machine fetches its next instruction. -/
def placeCode (c : Code) (s : State) : State :=
  match c with
  | .event w => placeEvent w s
  | .sym5 v => placeSymbol .num5 v s
  | .sym7 v => placeSymbol .alpha7 v s

end Sys2Proof.Machine
end

