-- ==== Sys2Proof/Machine/Step.lean ====
section
/-! DEFINITION. One step of the machine: fetch, then execute. -/

namespace Sys2Proof.Machine

/-- One step. With no event scheduled the CORE waits: "Between two events the state does not change" (R7).
A word that spells no event is refused (R93). -/
def step (s : State) : Host.Outcome State Fault Refusal :=
  match fetch s with
  | .instr i s' => exec i s'
  | .endOfBuffer s' => ofExcept (concludeRun (descriptorOf s'.fmt) s')
  | .waiting => .next s
  | .rejected w => .refused (.invalidEventWord w)
  | .faulted f => .fault f

/-- `s` with the instruction whose bits are `w` (numbered as the opcode table numbers them) where `step`
fetches its next instruction (log 8). Bits that are no code of the table are placed as an event word. -/
def State.withFetchWord (s : State) (nbits w : Nat) : State :=
  match tableCode nbits w with
  | some c => placeCode c s
  | none => placeEvent (BitVec.ofNat 16 w) s

end Sys2Proof.Machine
end

