-- ==== Sys2Proof/Machine/Ports.lean ====
section
/-! DEFINITION. The CORE's boundary: the encodings of the registers a host reads (R24, R27, R31, R210), the
output ports (R194), the payload view (R195), and events presented at one instant (R91, R225). -/

namespace Sys2Proof.Machine

/-- The encoding of `STATE` (R27). -/
def phaseCode : Phase → BitVec 3
  | .idle => 0
  | .capturing => 1
  | .captureComplete => 2
  | .decodingFwd => 3
  | .decodingRev => 4
  | .successFwd => 5
  | .successRev => 6
  | .failure => 7

/-- The encoding of `FMT` (R24). -/
def formatCode : Format → BitVec 1
  | .num5 => 0
  | .alpha7 => 1

/-- The encoding of `DIR` (R31). -/
def directionCode : Direction → BitVec 2
  | .unknown => 0
  | .forward => 1
  | .backward => 2

/-- The error codes (R210). -/
def errorCode : ErrCode → BitVec 4
  | .noError => 0
  | .noCardPresent => 1
  | .startSentinelNotFound => 2
  | .symbolParityError => 3
  | .outputBufferTooSmall => 4
  | .malformedTerminator => 5
  | .longitudinalParityError => 6
  | .captureOverflow => 7
  | .invalidSymbol => 8

/-! ### Output ports (R194): functions of the state -/

/-- `AVAILABLE` is `CARD`. -/
def portAvailable (s : State) : Bool :=
  s.card

/-- `STATE_O`. -/
def portState (s : State) : BitVec 3 :=
  phaseCode s.phase

/-- `DONE`: a terminal state. -/
def portDone (s : State) : Bool :=
  s.phase.terminal

/-- `OK_O`. -/
def portOk (s : State) : Bool :=
  s.ok

/-- `RESULT`: the count when a record is present, `0xFFFF` in `FAILURE`, otherwise no value. -/
def portResult (s : State) : Option (BitVec 16) :=
  if s.ok then some (s.count.setWidth 16)
  else if s.phase = .failure then some 0xFFFF
  else none

/-- `COUNT_O`. -/
def portCount (s : State) : BitVec 8 :=
  s.count

/-- `OUT_DATA(j)`: with a record present, the cells up to the terminator; any other read returns any
value (R28), which is a free value (log 6). -/
def portOutData (s : State) (j : BitVec 8) : Char8 :=
  if s.ok ∧ j ≤ s.count then
    (Memory.read? s.out j.toNat).getD (Config.freeOutData s.draws s.out j)
  else Config.freeOutData s.draws s.out j

/-- `DIR_O`. -/
def portDir (s : State) : BitVec 2 :=
  directionCode s.dir

/-- `ERR_FWD_O`. -/
def portErrFwd (s : State) : BitVec 4 :=
  errorCode s.errFwd

/-- `ERR_REV_O`. -/
def portErrRev (s : State) : BitVec 4 :=
  errorCode s.errRev

/-- `NO_CARD`: no card, and a quiet state (R194, R211). -/
def portNoCard (s : State) : Bool :=
  !s.card && s.phase.quiet

/-- `OVF_O`. -/
def portOvf (s : State) : Bool :=
  s.ovf

/-- `HAZ_O`. -/
def portHaz (s : State) : Bool :=
  s.haz

/-- `PAYLOAD = OUT[1 .. COUNT-2]`, of length `COUNT - 2`, for a record with `OK = 1` (R195). -/
def payload (s : State) : Option (List Char8) :=
  if s.ok then
    some ((List.range (s.count.toNat - 2)).map fun k => portOutData s (BitVec.ofNat 8 (k + 1)))
  else none

/-! ### Events presented at one instant (R91, R225) -/

/-- What the command port may carry besides `HRESET` (R91). -/
inductive Command where
  | beginFmt (fmt : Format)
  | stop
  | setlim (n : BitVec 8)
deriving DecidableEq, Repr

/-- An edge of the card-present level (R91). -/
inductive CardEdge where
  | rising
  | falling
deriving DecidableEq, Repr

/-- The edge between two successive levels of `card_present` (R91). -/
def cardEdge : Bool → Bool → Option CardEdge
  | false, true => some .rising
  | true, false => some .falling
  | false, false => none
  | true, true => none

/-- What the ports present in one instant (R91). -/
structure Instant where
  hreset  : Bool
  command : Option Command
  card    : Option CardEdge
  capture : Option Bit
  engine  : Bool
deriving DecidableEq, Repr

/-- The event of a command (R91). -/
def commandInstr : Command → Instr
  | .beginFmt fmt => .beginFmt fmt
  | .stop => .stop
  | .setlim n => .setlim n

/-- The event of a card-present edge (R91). -/
def edgeInstr : CardEdge → Instr
  | .rising => .cardOn
  | .falling => .cardOff

/-- The order in which the events of one instant are applied: `HRESET`, the command, `CARDON` or
`CARDOFF`, `BIT`, `STEP` (R225). -/
def serialise (p : Instant) : List Instr :=
  (if p.hreset then [.hreset] else [])
    ++ (p.command.map commandInstr).toList
    ++ (p.card.map edgeInstr).toList
    ++ (p.capture.map Instr.bit).toList
    ++ (if p.engine then [.step] else [])

/-- The event word of an event; a symbol has none (R90). -/
def eventWord (i : Instr) : Option EventWord :=
  match encode i with
  | .event w => some w
  | .sym5 _ => none
  | .sym7 _ => none

/-- An instant's events come to stand at the end of the schedule. -/
def State.present (p : Instant) (s : State) : State :=
  { s with input := s.input ++ (serialise p).filterMap eventWord }

end Sys2Proof.Machine
end

