-- ==== Sys2Proof/Machine/Trace.lean ====
section
/-! DEFINITION. The trace syntax (R103) and the pseudo-events, each by its expansion (R104). -/

namespace Sys2Proof.Machine

/-! ### One line of a trace (R103) -/

/-- The words of a line: `#` begins a comment, blanks separate. -/
def lineTokens (line : List Char) : List (List Char) :=
  ((line.takeWhile (· ≠ '#')).splitOnP fun c => c == ' ' || c == '\t').filter (· ≠ [])

/-- The value of a decimal digit. -/
def digitValue (c : Char) : Option Nat :=
  if '0'.toNat ≤ c.toNat ∧ c.toNat ≤ '9'.toNat then some (c.toNat - '0'.toNat) else none

/-- A decimal numeral read from the left, `acc` being the value so far. -/
def decimalFrom (acc : Nat) : List Char → Option Nat
  | [] => some acc
  | c :: rest =>
    match digitValue c with
    | some d => decimalFrom (10 * acc + d) rest
    | none => none

/-- The operand of `SETLIM`: decimal, 0 to 255. -/
def limitOperand (t : List Char) : Option (BitVec 8) :=
  match t with
  | [] => none
  | c :: rest =>
    match decimalFrom 0 (c :: rest) with
    | some n => if n ≤ 255 then some (BitVec.ofNat 8 n) else none
    | none => none

/-- The operand of `BEGIN`: `NUM5` or `0`, `ALPHA7` or `1`. -/
def formatOperand (t : List Char) : Option Format :=
  if t = ['N', 'U', 'M', '5'] ∨ t = ['0'] then some .num5
  else if t = ['A', 'L', 'P', 'H', 'A', '7'] ∨ t = ['1'] then some .alpha7
  else none

/-- The operand of `BIT`: `0` or `1`. -/
def bitOperand (t : List Char) : Option Bit :=
  if t = ['0'] then some 0 else if t = ['1'] then some 1 else none

/-- An event without an operand, by its mnemonic. -/
def plainEvent (t : List Char) : Option Instr :=
  if t = ['H', 'R', 'E', 'S', 'E', 'T'] then some .hreset
  else if t = ['S', 'T', 'O', 'P'] then some .stop
  else if t = ['C', 'A', 'R', 'D', 'O', 'N'] then some .cardOn
  else if t = ['C', 'A', 'R', 'D', 'O', 'F', 'F'] then some .cardOff
  else if t = ['S', 'T', 'E', 'P'] then some .step
  else none

/-- An event with an operand, by its mnemonic. -/
def operandEvent (t u : List Char) : Option Instr :=
  if t = ['B', 'E', 'G', 'I', 'N'] then (formatOperand u).map .beginFmt
  else if t = ['S', 'E', 'T', 'L', 'I', 'M'] then (limitOperand u).map .setlim
  else if t = ['B', 'I', 'T'] then (bitOperand u).map .bit
  else none

/-- The events of a line: none at all on a blank or comment line, one on an event line; no answer for a
line that is neither. -/
def parseLine (line : List Char) : Option (List Instr) :=
  match lineTokens line with
  | [] => some []
  | [t] => (plainEvent t).map fun i => [i]
  | [t, u] => (operandEvent t u).map fun i => [i]
  | _ :: _ :: _ :: _ => none

/-- The events of a trace, line by line. -/
def parseTrace : List (List Char) → Option (List Instr)
  | [] => some []
  | line :: rest =>
    match parseLine line, parseTrace rest with
    | some is, some js => some (is ++ js)
    | _, _ => none

/-! ### Pseudo-events (R104) -/

/-- `BITS <string>`. -/
def traceBits (bits : List Bit) : List Instr :=
  bits.map .bit

/-- `ZEROS <n>`. -/
def traceZeros (n : Nat) : List Instr :=
  List.replicate n (.bit 0)

/-- The bits of a symbol in stream order (R63). -/
def symbolStream (F : Descriptor) (sym : BitVec 8) : List Bit :=
  (List.range F.width).map fun i => BitVec.ofBool (sym.getLsbD (F.width - 1 - i))

/-- The legal symbol of a character, if the format has one (R96, R97). -/
def symbolOfChar (F : Descriptor) (ch : Char8) : Option (BitVec 8) :=
  ((List.range (2 ^ F.width)).map (BitVec.ofNat 8)).find? fun v => parityOk v && F.map v == some ch

/-- The symbol of a data value: the data bits, least significant first, then the bit that makes the number
of 1 bits odd (R64, R94). -/
def symbolOfData (F : Descriptor) (d : BitVec 8) : BitVec 8 :=
  let v := rev (F.width - 1) d <<< 1
  if parityOk v then v else v ||| 1

/-- The symbols of a character sequence. -/
def symbolsOfChars (F : Descriptor) : List Char8 → Option (List (BitVec 8))
  | [] => some []
  | c :: rest =>
    match symbolOfChar F c, symbolsOfChars F rest with
    | some v, some vs => some (v :: vs)
    | _, _ => none

/-- `SYMS <fmt> "<chars>"`. -/
def traceSyms (fmt : Format) (chars : List Char8) : Option (List Instr) :=
  (symbolsOfChars (descriptorOf fmt) chars).map fun vs =>
    traceBits (vs.flatMap (symbolStream (descriptorOf fmt)))

/-- The LRC symbol of a sequence of symbols: its data value is the exclusive-or of theirs (R104). -/
def lrcSymbol (F : Descriptor) (vs : List (BitVec 8)) : BitVec 8 :=
  symbolOfData F (vs.foldl (fun d v => d ^^^ dataValue F.width v) 0)

/-- `FRAME <fmt> "<chars>"`. -/
def traceFrame (fmt : Format) (chars : List Char8) : Option (List Instr) :=
  (symbolsOfChars (descriptorOf fmt) chars).map fun vs =>
    traceBits ((vs ++ [lrcSymbol (descriptorOf fmt) vs]).flatMap (symbolStream (descriptorOf fmt)))

/-- `SWIPE <string>`. -/
def traceSwipe (bits : List Bit) : List Instr :=
  [.cardOn] ++ traceBits bits ++ [.cardOff]

/-- `RUN`. -/
def traceRun : List Instr :=
  [.step, .step, .step]

/-- `READ <n>`. -/
def traceRead (n : BitVec 8) : List Instr :=
  [.setlim n]

end Sys2Proof.Machine
end

