-- ==== Sys2Proof/Machine/Resolve.lean ====
section
/-! DEFINITION. The decode as a pure function: `RESOLVE(bits, FMT, SIZE_LIMIT)` (R191). -/

namespace Sys2Proof.Machine

/-- The listed bits at the cells `i`, `i+1`, …. -/
def indexBits (bits : List Bit) (i : Nat) : Cells 1 :=
  match bits with
  | [] => []
  | b :: rest => (i, b) :: indexBits rest (i + 1)

/-- The state a capture of exactly these bits leaves: `CAPTURE_COMPLETE` with `BITS[0 .. LEN-1] = bits`. -/
def capturedState (cfg : Config) (bits : List Bit) (fmt : Format) (limit : BitVec 8) : State :=
  { State.reset with
    cfg := cfg, bits := indexBits bits 0, len := BitVec.ofNat 16 bits.length, fmt := fmt,
    sizeLimit := limit, phase := .captureComplete }

/-- The characters of the record: `OUT[0 .. COUNT-1]` (R28, R29). -/
def recordChars (s : State) : List Char8 :=
  (List.range s.count.toNat).filterMap (Memory.read? s.out)

/-- The valid prefix of the buffer: `BITS[0 .. LEN-1]` (R21). -/
def bufferBits (s : State) : List Bit :=
  (List.range s.len.toNat).filterMap (Memory.read? s.bits)

/-- Go on from a next state; a stop stays a stop. -/
def andThen (r : Result) (k : State → Result) : Result :=
  match r with
  | .next s => k s
  | .fault f => .fault f
  | .refused f => .refused f

/-- `n` engine steps in a row. -/
def engineSteps : Nat → State → Result
  | 0, s => .next s
  | n + 1, s => andThen (execStep s) (engineSteps n)

/-- The tuple R191 names. -/
structure Resolved where
  ok : Bool
  dir : Direction
  count : BitVec 8
  chars : List Char8
  errFwd : ErrCode
  errRev : ErrCode
  bits : List Bit
deriving DecidableEq, Repr

/-- The tuple read from a state. -/
def resolvedOf (s : State) : Resolved :=
  { ok := s.ok, dir := s.dir, count := s.count, chars := recordChars s, errFwd := s.errFwd,
    errRev := s.errRev, bits := bufferBits s }

/-- `RESOLVE(bits, FMT, SIZE_LIMIT)`: three `STEP`s from `CAPTURE_COMPLETE` (R191). -/
def resolve (cfg : Config) (bits : List Bit) (fmt : Format) (limit : BitVec 8) : Option Resolved :=
  match engineSteps 3 (capturedState cfg bits fmt limit) with
  | .next s => some (resolvedOf s)
  | .fault _ => none
  | .refused _ => none

end Sys2Proof.Machine
end

