-- ==== Sys2Proof/Safety.lean ====
section
/-! DEFINITION. What claims speak of: the contents of the buffer as the spec writes them, the invariant of
the machine (R40 and the bounds of R21, R60, R61, R160), and what a safe run is. -/

namespace Sys2Proof.Machine

/-! ### The buffer as the spec writes it -/

/-- `BITS[i]` as a number, 0 where the cell holds no value. -/
def bitAt (m : Cells 1) (i : Nat) : Nat :=
  ((Memory.read? m i).getD 0).toNat

/-- The value of the `w` bits from index `p` on, the earliest the most significant: the sum of R63. -/
def windowValue (m : Cells 1) (p w : Nat) : Nat :=
  ((List.range w).map fun k => bitAt m (p + k) * 2 ^ (w - 1 - k)).sum

/-- Symbol `k` of the run that begins at `START`: `BITS[START + k*F.W .. START + k*F.W + F.W - 1]` (R65,
R151), as an accumulator value. -/
def symbolAt (F : Descriptor) (s : State) (k : Nat) : BitVec 8 :=
  BitVec.ofNat 8 (windowValue s.bits (s.start.toNat + k * F.width) F.width)

/-- The sum of column `c` over the first `n` symbols of the run (R172). -/
def columnTotal (F : Descriptor) (s : State) (c n : Nat) : Nat :=
  ((List.range n).map fun k => bitAt s.bits (s.start.toNat + c + k * F.width)).sum

/-- Every cell of the valid prefix holds a bit, and the prefix lies inside the buffer (R21, R60). -/
structure Readable (s : State) : Prop where
  lenCap : s.len.toNat ≤ s.cfg.bufCap
  cells  : ∀ i, i < s.len.toNat → (Memory.read? s.bits i).isSome = true

/-- The run of `CNT` symbols lies inside the buffer and its characters stand in `OUT` (R160). -/
structure RunReadable (F : Descriptor) (s : State) : Prop where
  buffer : Readable s
  inside : s.start.toNat + s.cnt.toNat * F.width ≤ s.len.toNat
  chars  : ∀ j, j < s.cnt.toNat → (Memory.read? s.out j).isSome = true

/-- `m` is the valid prefix of `s.bits` reversed, the cells at and above `LEN` untouched (R182). -/
def ReversedPrefix (s : State) (m : Cells 1) : Prop :=
  (∀ i, i < s.len.toNat → Memory.read? m i = Memory.read? s.bits (s.len.toNat - 1 - i)) ∧
  ∀ i, s.len.toNat ≤ i → Memory.read? m i = Memory.read? s.bits i

/-- `m` is `s.out` with `v` in cell `j` and every other cell as before. -/
def OneCharStored (s : State) (j : Nat) (v : Char8) (m : Cells 8) : Prop :=
  Memory.read? m j = some v ∧ ∀ k, k ≠ j → Memory.read? m k = Memory.read? s.out k

/-- `r` is `s` with the decode error `e` taken: in `DECODING_FWD` the failing arm of R186, in
`DECODING_REV` the failing arm of R187; nothing else changes. -/
def ErrorTaken (e : ErrCode) (s : State) (r : Result) : Prop :=
  (s.phase = .decodingFwd → ∃ m, ReversedPrefix s m ∧
    r = .next { s with bits := m, errFwd := e, phase := .decodingRev, engine := .atRest }) ∧
  (s.phase = .decodingRev →
    r = .next { s with errRev := e, count := 0, ok := false, dir := .unknown, phase := .failure,
                       engine := .atRest })

/-- `r` is `s` with a record of `c` characters accepted: the success arm of R186 or of R187; nothing else
changes. -/
def RecordAccepted (c : BitVec 8) (s : State) (r : Result) : Prop :=
  (s.phase = .decodingFwd →
    r = .next { s with errFwd := .noError, count := c, ok := true, dir := .forward,
                       phase := .successFwd, engine := .atRest }) ∧
  (s.phase = .decodingRev →
    r = .next { s with errRev := .noError, count := c, ok := true, dir := .backward,
                       phase := .successRev, engine := .atRest })

/-! ### The invariant -/

/-- The bounds of the parameter and the two memories (D1, R21, R40 item 1, R60, R61). -/
structure MemoryInv (s : State) : Prop where
  cfgWf      : s.cfg.wf = true
  readable   : Readable s
  bitsWf     : Memory.wf s.bits = true
  bitsBound  : ∀ p ∈ s.bits, p.1 < s.cfg.bufCap
  outWf      : Memory.wf s.out = true
  outBound   : ∀ p ∈ s.out, p.1 < 256

/-- R40 items 2 to 8, with what makes them hold at every step: no code is recorded before the attempt that
records it. -/
structure RecordInv (s : State) : Prop where
  capturingCard : s.phase = .capturing → s.card = true
  okSuccess     : s.ok = s.phase.success
  successFwd    : s.phase = .successFwd → s.dir = .forward ∧ s.errFwd = .noError ∧ s.errRev = .noError
  successRev    : s.phase = .successRev → s.dir = .backward ∧ s.errFwd ≠ .noError ∧ s.errRev = .noError
  failure       : s.phase = .failure →
    s.dir = .unknown ∧ s.count = 0 ∧ s.errFwd ≠ .noError ∧ s.errRev ≠ .noError
  record        : s.ok = true →
    2 ≤ s.count.toNat ∧ Memory.read? s.out (s.count.toNat - 2) = some 0x3F ∧
    Memory.read? s.out s.count.toNat = some 0x00 ∧
    ∀ j, j < s.count.toNat → (Memory.read? s.out j).isSome = true
  fwdCode       : s.errFwd ≠ .noCardPresent ∧ s.errFwd ≠ .captureOverflow
  revCode       : s.errRev ≠ .noCardPresent ∧ s.errRev ≠ .captureOverflow
  noCodeYet     : s.phase = .capturing ∨ s.phase = .captureComplete ∨ s.phase = .decodingFwd →
    s.errFwd = .noError ∧ s.errRev = .noError
  retrying      : s.phase = .decodingRev → s.errFwd ≠ .noError ∧ s.errRev = .noError

/-- An attempt in progress (R37, R65, R156, R160): the demodulator stands `BITCNT` bits into symbol `CNT`
of the run that begins at `START`. -/
structure RunInv (s : State) : Prop where
  decoding : s.phase.decoding = true
  found    : s.startFound = true
  position : s.idx.toNat =
    s.start.toNat + s.cnt.toNat * (descriptorOf s.fmt).width + s.bitcnt.toNat
  inBuffer : s.idx.toNat ≤ s.len.toNat
  gathered : s.bitcnt.toNat < (descriptorOf s.fmt).width
  limit    : s.cnt ≤ s.sizeLimit
  chars    : ∀ j, j < s.cnt.toNat → (Memory.read? s.out j).isSome = true

/-- The invariant of the machine. -/
structure Inv (s : State) : Prop where
  memory : MemoryInv s
  record : RecordInv s
  run    : s.engine = .demodulating → RunInv s

/-- A safe run of `n` steps from `s`: no step of it stops with a fault (R72: no rule performs an
out-of-range access). -/
def SafeRun (n : Nat) (s : State) : Prop :=
  ∀ k, k ≤ n → ∀ f, Sys2Proof.core.run k s ≠ .fault f

end Sys2Proof.Machine
end

