-- ==== Sys2Proof/Certificates/Slice0/Obligations.lean ====
section
/-! DEFINITION. The statements for the provers. -/

open Sys2Proof Sys2Proof.Machine

namespace Sys2Proof.Claims

/-- The 16 legal numeric symbols, each with its character as R96 lists it. -/
def num5Characters : List (Instr × Char8) :=
  [ (.sym5Char30, 0x30), (.sym5Char38, 0x38), (.sym5Char34, 0x34), (.sym5Char3C, 0x3C),
    (.sym5Char32, 0x32), (.sym5Char3A, 0x3A), (.sym5Char36, 0x36), (.sym5Char3E, 0x3E),
    (.sym5Char31, 0x31), (.sym5Char39, 0x39), (.sym5Char35, 0x35), (.sym5Char3D, 0x3D),
    (.sym5Char33, 0x33), (.sym5Char3B, 0x3B), (.sym5Char37, 0x37), (.sym5Char3F, 0x3F) ]

/-- The 64 legal alphanumeric symbols, each with its character as R97 lists it. Part 1. -/
def alpha7Characters0 : List (Instr × Char8) :=
  [ (.sym7Char20, 0x20), (.sym7Char40, 0x40), (.sym7Char30, 0x30), (.sym7Char50, 0x50),
    (.sym7Char28, 0x28), (.sym7Char48, 0x48), (.sym7Char38, 0x38), (.sym7Char58, 0x58),
    (.sym7Char24, 0x24), (.sym7Char44, 0x44), (.sym7Char34, 0x34), (.sym7Char54, 0x54),
    (.sym7Char2C, 0x2C), (.sym7Char4C, 0x4C), (.sym7Char3C, 0x3C), (.sym7Char5C, 0x5C),
    (.sym7Char22, 0x22), (.sym7Char42, 0x42), (.sym7Char32, 0x32), (.sym7Char52, 0x52),
    (.sym7Char2A, 0x2A), (.sym7Char4A, 0x4A), (.sym7Char3A, 0x3A), (.sym7Char5A, 0x5A),
    (.sym7Char26, 0x26), (.sym7Char46, 0x46), (.sym7Char36, 0x36), (.sym7Char56, 0x56),
    (.sym7Char2E, 0x2E), (.sym7Char4E, 0x4E), (.sym7Char3E, 0x3E), (.sym7Char5E, 0x5E) ]

/-- The 64 legal alphanumeric symbols, each with its character as R97 lists it. Part 2. -/
def alpha7Characters1 : List (Instr × Char8) :=
  [ (.sym7Char21, 0x21), (.sym7Char41, 0x41), (.sym7Char31, 0x31), (.sym7Char51, 0x51),
    (.sym7Char29, 0x29), (.sym7Char49, 0x49), (.sym7Char39, 0x39), (.sym7Char59, 0x59),
    (.sym7Char25, 0x25), (.sym7Char45, 0x45), (.sym7Char35, 0x35), (.sym7Char55, 0x55),
    (.sym7Char2D, 0x2D), (.sym7Char4D, 0x4D), (.sym7Char3D, 0x3D), (.sym7Char5D, 0x5D),
    (.sym7Char23, 0x23), (.sym7Char43, 0x43), (.sym7Char33, 0x33), (.sym7Char53, 0x53),
    (.sym7Char2B, 0x2B), (.sym7Char4B, 0x4B), (.sym7Char3B, 0x3B), (.sym7Char5B, 0x5B),
    (.sym7Char27, 0x27), (.sym7Char47, 0x47), (.sym7Char37, 0x37), (.sym7Char57, 0x57),
    (.sym7Char2F, 0x2F), (.sym7Char4F, 0x4F), (.sym7Char3F, 0x3F), (.sym7Char5F, 0x5F) ]

/-- The 64 legal alphanumeric symbols, each with its character as R97 lists it. -/
def alpha7Characters : List (Instr × Char8) :=
  alpha7Characters0 ++ alpha7Characters1

/-- The 15 illegal numeric symbols (R99). -/
def num5Illegal : List Instr :=
  [ .sym5Illegal03, .sym5Illegal05, .sym5Illegal06, .sym5Illegal09,
    .sym5Illegal0A, .sym5Illegal0C, .sym5Illegal0F, .sym5Illegal11,
    .sym5Illegal12, .sym5Illegal14, .sym5Illegal17, .sym5Illegal18,
    .sym5Illegal1B, .sym5Illegal1D, .sym5Illegal1E ]

/-- The 63 illegal alphanumeric symbols (R99). Part 1. -/
def alpha7Illegal0 : List Instr :=
  [ .sym7Illegal03, .sym7Illegal05, .sym7Illegal06, .sym7Illegal09,
    .sym7Illegal0A, .sym7Illegal0C, .sym7Illegal0F, .sym7Illegal11,
    .sym7Illegal12, .sym7Illegal14, .sym7Illegal17, .sym7Illegal18,
    .sym7Illegal1B, .sym7Illegal1D, .sym7Illegal1E, .sym7Illegal21,
    .sym7Illegal22, .sym7Illegal24, .sym7Illegal27, .sym7Illegal28,
    .sym7Illegal2B, .sym7Illegal2D, .sym7Illegal2E, .sym7Illegal30,
    .sym7Illegal33, .sym7Illegal35, .sym7Illegal36, .sym7Illegal39,
    .sym7Illegal3A, .sym7Illegal3C, .sym7Illegal3F, .sym7Illegal41 ]

/-- The 63 illegal alphanumeric symbols (R99). Part 2. -/
def alpha7Illegal1 : List Instr :=
  [ .sym7Illegal42, .sym7Illegal44, .sym7Illegal47, .sym7Illegal48,
    .sym7Illegal4B, .sym7Illegal4D, .sym7Illegal4E, .sym7Illegal50,
    .sym7Illegal53, .sym7Illegal55, .sym7Illegal56, .sym7Illegal59,
    .sym7Illegal5A, .sym7Illegal5C, .sym7Illegal5F, .sym7Illegal60,
    .sym7Illegal63, .sym7Illegal65, .sym7Illegal66, .sym7Illegal69,
    .sym7Illegal6A, .sym7Illegal6C, .sym7Illegal6F, .sym7Illegal71,
    .sym7Illegal72, .sym7Illegal74, .sym7Illegal77, .sym7Illegal78,
    .sym7Illegal7B, .sym7Illegal7D, .sym7Illegal7E ]

/-- The 63 illegal alphanumeric symbols (R99). -/
def alpha7Illegal : List Instr :=
  alpha7Illegal0 ++ alpha7Illegal1

/-- The events `BIT b` of a bit string, executed one after another. -/
def captureBits : List Bit → State → Result
  | [], s => .next s
  | b :: rest, s => andThen (exec (.bit b) s) (captureBits rest)

/-- The stream of `a` zeros, the symbols `vs`, their LRC symbol, and `b` zeros (R104: `ZEROS`, `FRAME`). -/
def frameStream (F : Descriptor) (a : Nat) (vs : List (BitVec 8)) (b : Nat) : List Bit :=
  List.replicate a 0 ++ (vs ++ [lrcSymbol F vs]).flatMap (symbolStream F) ++ List.replicate b 0

/-- `i` ends an attempt that stands at `s`: the event `STEP`, or a symbol of the format that is being
demodulated (the model's symbol turns, log 5). -/
def EndsAttempt (i : Instr) (s : State) : Prop :=
  i = .step ∨ demodulating s = true ∧ (s.fmt = .num5 ∧ i ∈ sym5Rows ∨ s.fmt = .alpha7 ∧ i ∈ sym7Rows)

/-- The encoding of `STATE` (R27). -/
def stateCodes : List (Phase × BitVec 3) :=
  [ (.idle, 0), (.capturing, 1), (.captureComplete, 2), (.decodingFwd, 3), (.decodingRev, 4),
    (.successFwd, 5), (.successRev, 6), (.failure, 7) ]

/-- The encoding of `DIR` (R31). -/
def dirCodes : List (Direction × BitVec 2) :=
  [ (.unknown, 0), (.forward, 1), (.backward, 2) ]

/-- The error codes (R210). -/
def errCodes : List (ErrCode × BitVec 4) :=
  [ (.noError, 0), (.noCardPresent, 1), (.startSentinelNotFound, 2), (.symbolParityError, 3),
    (.outputBufferTooSmall, 4), (.malformedTerminator, 5), (.longitudinalParityError, 6),
    (.captureOverflow, 7), (.invalidSymbol, 8) ]

end Sys2Proof.Claims

open Sys2Proof.Claims

/-! ### Encoding -/

/-- Decoding the code of a well-formed instruction gives the instruction back, for all 168 rows. -/
def Obligations.DecodeInvertsEncode : Prop :=
  ∀ i : Instr, i.wf = true → decode (encode i) = .ok i

/-- Every code has one spelling: a code that decodes to an instruction is that instruction's code. -/
def Obligations.EncodeInvertsDecode : Prop :=
  ∀ (c : Code) (i : Instr), decode c = .ok i → encode i = c

/-- R92: the word of each row, by its match and mask, is the row's event with the row's operand. -/
def Obligations.EventRowsDecodeAsTheTableSays : Prop :=
  ∀ w : EventWord,
    (w &&& 0xFFFE = 0x1000 →
      decodeEvent w = .ok (.beginFmt (if w.getLsbD 0 then .alpha7 else .num5))) ∧
    (w &&& 0xFFFF = 0x2000 → decodeEvent w = .ok .stop) ∧
    (w &&& 0xFF00 = 0x3000 → decodeEvent w = .ok (.setlim (w.extractLsb' 0 8))) ∧
    (w &&& 0xFFFF = 0x4000 → decodeEvent w = .ok .cardOn) ∧
    (w &&& 0xFFFF = 0x5000 → decodeEvent w = .ok .cardOff) ∧
    (w &&& 0xFFFE = 0x6000 → decodeEvent w = .ok (.bit (w.extractLsb' 0 1))) ∧
    (w &&& 0xFFFF = 0x7000 → decodeEvent w = .ok .step) ∧
    (w &&& 0xFFFF = 0xF000 → decodeEvent w = .ok .hreset)

/-- R93: a word that matches no row spells no event, and a machine that meets it next on the schedule
refuses it by name. -/
def Obligations.IllegalEventWordsAreRefused : Prop :=
  ∀ w : EventWord,
    w &&& 0xFFFE ≠ 0x1000 → w &&& 0xFFFF ≠ 0x2000 → w &&& 0xFF00 ≠ 0x3000 → w &&& 0xFFFF ≠ 0x4000 →
    w &&& 0xFFFF ≠ 0x5000 → w &&& 0xFFFE ≠ 0x6000 → w &&& 0xFFFF ≠ 0x7000 → w &&& 0xFFFF ≠ 0xF000 →
    (∃ r, decodeEvent w = .error r) ∧
    ∀ (s : State) (rest : List EventWord), demodulating s = false → s.input = w :: rest →
      step s = .refused (.invalidEventWord w)

/-- Words written out from the spec's tables decode to the instructions they stand for. -/
def Obligations.SpelledCodesDecode : Prop :=
  decodeEvent 0b0001000000000001 = .ok (.beginFmt .alpha7) ∧
  decodeEvent 0b0011000000101000 = .ok (.setlim 40) ∧
  decodeEvent 0b0110000000000001 = .ok (.bit 1) ∧
  decodeEvent 0b0111000000000000 = .ok .step ∧
  decodeSym5 0b11010 = .sym5Char3B ∧ decodeSym5 0b00000 = .sym5Null ∧
  decodeSym7 0b1010001 = .sym7Char25 ∧ decodeSym7 0b1111101 = .sym7Illegal7D

/-- R99: every symbol value of either format is the null symbol, illegal (even, non-zero) or legal (odd,
with a character), and there are 1, 15, 16 and 1, 63, 64 of them. -/
def Obligations.SymbolsFallIntoThreeClasses : Prop :=
  (∀ v : Symbol5, (decodeSym5 v = .sym5Null ↔ v = 0) ∧
    (decodeSym5 v ∈ num5Illegal ↔ v ≠ 0 ∧ parityOk (v.setWidth 8) = false) ∧
    (decodeSym5 v ∈ num5Characters.map Prod.fst ↔ parityOk (v.setWidth 8) = true)) ∧
  (∀ v : Symbol7, (decodeSym7 v = .sym7Null ↔ v = 0) ∧
    (decodeSym7 v ∈ alpha7Illegal ↔ v ≠ 0 ∧ parityOk (v.setWidth 8) = false) ∧
    (decodeSym7 v ∈ alpha7Characters.map Prod.fst ↔ parityOk (v.setWidth 8) = true)) ∧
  num5Illegal.length = 15 ∧ num5Characters.length = 16 ∧
  alpha7Illegal.length = 63 ∧ alpha7Characters.length = 64

/-- R96: the character of a numeric symbol of odd parity is `0x30 + d` with `d = rev_4(sym >> 1)`, as the
listing has it, and a symbol of even parity has none. -/
def Obligations.NumericMapIsDataPlus30 : Prop :=
  (∀ v : Symbol5, num5Map (v.setWidth 8) =
    if parityOk (v.setWidth 8) then some (0x30 + rev 4 (v.setWidth 8 >>> 1)) else none) ∧
  ∀ v : Symbol5, parityOk (v.setWidth 8) = true →
    ∃ ch, num5Map (v.setWidth 8) = some ch ∧ (decodeSym5 v, ch) ∈ num5Characters

/-- R97: the character of an alphanumeric symbol is `rev_6(sym >> 1) + 0x20`, from `0x20` to `0x5F`, as the
listing has it. -/
def Obligations.AlphanumericMapIsDataPlus20 : Prop :=
  ∀ v : Symbol7, ∃ ch, alpha7Map (v.setWidth 8) = some ch ∧ ch = rev 6 (v.setWidth 8 >>> 1) + 0x20 ∧
    0x20 ≤ ch ∧ ch ≤ 0x5F ∧
    (parityOk (v.setWidth 8) = true → (decodeSym7 v, ch) ∈ alpha7Characters)

/-- R11: both fixed descriptors satisfy the four conditions of a well-formed descriptor. -/
def Obligations.FixedDescriptorsAreWellFormed : Prop :=
  ∀ fmt : Format, 2 ≤ (descriptorOf fmt).width ∧ (descriptorOf fmt).width ≤ 8 ∧
    (descriptorOf fmt).pattern.getLsbD ((descriptorOf fmt).width - 1) = true ∧
    popcount (descriptorOf fmt).pattern % 2 = 1 ∧
    ∃ ch, (descriptorOf fmt).map (descriptorOf fmt).pattern = some ch

/-! ### The step -/

/-- A step at a state between events runs the event its next word spells, with the word taken off the
schedule. -/
def Obligations.StepRunsTheNextEvent : Prop :=
  ∀ (s : State) (w : EventWord) (rest : List EventWord) (i : Instr),
    demodulating s = false → s.input = w :: rest → decodeEvent w = .ok i →
    step s = exec i { s with input := rest }

/-- A step inside an attempt runs the symbol that stands in the buffer at `IDX`: its value is the sum of
R63, `IDX` moves past its `F.W` bits and `ACC` holds it. That `IDX` stands one past the last bit read is
DEDUCED (log 3), here and in the next statement. -/
def Obligations.StepRunsTheSymbolAtIdx : Prop :=
  ∀ s : State, demodulating s = true → Readable s → s.bitcnt = 0 →
    s.idx.toNat + (descriptorOf s.fmt).width ≤ s.len.toNat →
    step s =
      exec (symbolInstr s.fmt
          (BitVec.ofNat 8 (windowValue s.bits s.idx.toNat (descriptorOf s.fmt).width)))
        { s with
          acc := BitVec.ofNat 8 (windowValue s.bits s.idx.toNat (descriptorOf s.fmt).width)
          idx := s.idx + BitVec.ofNat 16 (descriptorOf s.fmt).width }

/-- A step inside an attempt with fewer than `F.W` bits left ends the run as it stands: the bits of the
incomplete symbol give no character and no error. -/
def Obligations.StepEndsTheRunAtTheBufferEnd : Prop :=
  ∀ s : State, demodulating s = true → Readable s → s.bitcnt = 0 → s.idx.toNat ≤ s.len.toNat →
    s.len.toNat < s.idx.toNat + (descriptorOf s.fmt).width →
    ∃ a b, step s =
      ofExcept (concludeRun (descriptorOf s.fmt) { s with acc := a, bitcnt := b, idx := s.len })

/-- With no event scheduled the state does not change (the model's choice of how a wait appears, log 1). -/
def Obligations.StepWaitsWithoutAnEvent : Prop :=
  ∀ s : State, demodulating s = false → s.input = [] → step s = .next s

/-- An event leaves the parameter and the rest of the schedule alone, whatever the instruction (the
model's own fields, log 1 and log 2). -/
def Obligations.ExecKeepsParameterAndSchedule : Prop :=
  ∀ (i : Instr) (s t : State), exec i s = .next t → t.cfg = s.cfg ∧ t.input = s.input

/-! ### The configuration and capture events -/

/-- R120: `BEGIN` is accepted in a quiet state with `ARMED = 0`, and otherwise only sets `HAZ`. -/
def Obligations.BeginIsAcceptedOrSetsHaz : Prop :=
  ∀ (fmt : Format) (s : State), exec (.beginFmt fmt) s =
    if s.phase ∈ [.idle, .successFwd, .successRev, .failure] ∧ s.armed = false
    then .next { s with fmt := fmt, armed := true }
    else .next { s with haz := true }

/-- R121: `STOP` clears `ARMED` in every state and changes nothing else. -/
def Obligations.StopDisarmsInEveryState : Prop :=
  ∀ s : State, exec .stop s = .next { s with armed := false }

/-- R122: `SETLIM` is accepted in a quiet state, and otherwise only sets `HAZ`. -/
def Obligations.SetlimIsAcceptedOrSetsHaz : Prop :=
  ∀ (n : BitVec 8) (s : State), exec (.setlim n) s =
    if s.phase ∈ [.idle, .successFwd, .successRev, .failure]
    then .next { s with sizeLimit := n }
    else .next { s with haz := true }

/-- R123, R125, R127: `BIT b` is ignored unless armed; it is stored at `LEN` while capturing, or sets `OVF`
in a full buffer; it is dropped in a quiet state and sets `HAZ` in a busy one. -/
def Obligations.BitIsStoredDroppedOrSetsHaz : Prop :=
  ∀ (b : Bit) (s : State),
    (s.armed = false → exec (.bit b) s = .next s) ∧
    (s.armed = true → s.phase = .capturing → s.len.toNat < s.cfg.bufCap →
      ∃ m, Memory.read? m s.len.toNat = some b ∧
        (∀ i, i ≠ s.len.toNat → Memory.read? m i = Memory.read? s.bits i) ∧
        exec (.bit b) s = .next { s with bits := m, len := s.len + 1 }) ∧
    (s.armed = true → s.phase = .capturing → s.cfg.bufCap ≤ s.len.toNat →
      exec (.bit b) s = .next { s with ovf := true }) ∧
    (s.armed = true → s.phase ∈ [.idle, .successFwd, .successRev, .failure] →
      exec (.bit b) s = .next s) ∧
    (s.armed = true → s.phase ∈ [.captureComplete, .decodingFwd, .decodingRev] →
      exec (.bit b) s = .next { s with haz := true })

/-- R70: of any string of bits appended to an empty buffer the first `BUF_CAP` are kept, bit `n` in cell
`n`; the rest are lost and set `OVF`. Nothing but `BITS`, `LEN` and `OVF` changes. -/
def Obligations.CaptureKeepsTheFirstBufCapBits : Prop :=
  ∀ (bs : List Bit) (s : State), s.cfg.wf = true → s.armed = true → s.phase = .capturing → s.len = 0 →
    ∃ t, captureBits bs s = .next t ∧
      t = { s with bits := t.bits, len := t.len, ovf := t.ovf } ∧
      t.len.toNat = min bs.length s.cfg.bufCap ∧
      (∀ i, i < min bs.length s.cfg.bufCap → Memory.read? t.bits i = bs[i]?) ∧
      (∀ i, min bs.length s.cfg.bufCap ≤ i → Memory.read? t.bits i = Memory.read? s.bits i) ∧
      (t.ovf = true ↔ s.ovf = true ∨ s.cfg.bufCap < bs.length)

/-! ### The card-present events, `STEP` outside an attempt, `HRESET` -/

/-- R183: without an edge nothing changes; from a quiet state the capture starts, `DIR` kept; in any other
state `CARD` is latched and `HAZ` set. That `CAPTURING` with `CARD = 0`, which R40 item 2 rules out, is among
the other states is the model's inference from the `else` of R183 (DEDUCED, log 9). -/
def Obligations.CardOnStartsACaptureFromQuietStates : Prop :=
  ∀ s : State,
    (s.card = true → exec .cardOn s = .next s) ∧
    (s.card = false → s.phase ∈ [.idle, .successFwd, .successRev, .failure] →
      exec .cardOn s = .next { s with card := true, phase := .capturing, len := 0, ovf := false,
                                      ok := false, count := 0, errFwd := .noError, errRev := .noError }) ∧
    (s.card = false → s.phase ∉ [.idle, .successFwd, .successRev, .failure] →
      exec .cardOn s = .next { s with card := true, haz := true })

/-- R184: `CARDOFF` ends a capture; in every other state only `CARD` changes. -/
def Obligations.CardOffEndsACapture : Prop :=
  ∀ s : State, exec .cardOff s =
    if s.card = true ∧ s.phase = .capturing
    then .next { s with card := false, phase := .captureComplete }
    else .next { s with card := false }

/-- R185 in `CAPTURE_COMPLETE`, and R188: the step only moves the state, or changes nothing. -/
def Obligations.StepOutsideAnAttempt : Prop :=
  ∀ s : State,
    (s.phase = .captureComplete → exec .step s = .next { s with phase := .decodingFwd }) ∧
    (s.phase ∈ [.idle, .capturing, .successFwd, .successRev, .failure] → exec .step s = .next s)

/-- R240: `HRESET` is accepted in every state and gives every register of R41 its reset value; no other
instruction clears `HAZ` or returns to `IDLE`. Nothing is said of `BITS`, `OUT` and the working registers,
which the rule leaves unspecified. -/
def Obligations.HresetGivesTheResetValues : Prop :=
  (∀ s : State, ∃ t, exec .hreset s = .next t ∧
    t.len = 0 ∧ t.armed = false ∧ t.fmt = .num5 ∧ t.sizeLimit = 0 ∧ t.card = false ∧ t.phase = .idle ∧
    t.count = 0 ∧ t.ok = false ∧ t.dir = .unknown ∧ t.errFwd = .noError ∧ t.errRev = .noError ∧
    t.ovf = false ∧ t.haz = false) ∧
  ∀ (i : Instr) (s t : State), i ≠ .hreset → exec i s = .next t →
    (s.haz = true → t.haz = true) ∧ (t.phase = .idle → s.phase = .idle)

/-! ### The stages of an attempt -/

/-- R140 to R143: over a readable buffer `FIND` answers; when it finds, `START` is the least offset whose
`F.W` bits spell the sentinel, and they lie inside the buffer; when it does not, no offset has them. It
writes working registers only. -/
def Obligations.FindReportsTheFirstSentinel : Prop :=
  ∀ (fmt : Format) (s : State), Readable s →
    ∃ t, find (descriptorOf fmt) s = .ok t ∧
      t = { s with acc := t.acc, idx := t.idx, start := t.start, startFound := t.startFound } ∧
      (t.startFound = true →
        t.start.toNat + (descriptorOf fmt).width ≤ s.len.toNat ∧
        windowValue s.bits t.start.toNat (descriptorOf fmt).width = (descriptorOf fmt).pattern.toNat ∧
        ∀ p, p < t.start.toNat →
          windowValue s.bits p (descriptorOf fmt).width ≠ (descriptorOf fmt).pattern.toNat) ∧
      (t.startFound = false → ∀ p, p + (descriptorOf fmt).width ≤ s.len.toNat →
        windowValue s.bits p (descriptorOf fmt).width ≠ (descriptorOf fmt).pattern.toNat)

/-- R160: when `DEMOD` from a sentinel returns `ok(CNT)`, then `CNT >= 1`, the run lies inside the buffer,
every symbol of it is non-zero, of odd parity and mapped into `OUT`, and the terminator follows. -/
def Obligations.DemodulatedRunIsLegal : Prop :=
  ∀ (fmt : Format) (s t : State) (c : BitVec 8),
    s.start.toNat + (descriptorOf fmt).width ≤ s.len.toNat →
    symbolAt (descriptorOf fmt) s 0 = (descriptorOf fmt).pattern →
    demod (descriptorOf fmt) s = .ok (t, .ok c) →
    c = t.cnt ∧ 1 ≤ c.toNat ∧ s.start.toNat + c.toNat * (descriptorOf fmt).width ≤ s.len.toNat ∧
    (∀ k, k < c.toNat → symbolAt (descriptorOf fmt) s k ≠ 0 ∧
      popcount (symbolAt (descriptorOf fmt) s k) % 2 = 1 ∧
      ∃ ch, (descriptorOf fmt).map (symbolAt (descriptorOf fmt) s k) = some ch ∧
        Memory.read? t.out k = some ch) ∧
    Memory.read? t.out c.toNat = some 0x00

/-- R153, R155, R156, R219 item 2: `DEMOD` raises at the first symbol that fails, with its position: even
parity, or a legal symbol with `SIZE_LIMIT` characters written. `InvalidSymbol` never comes. -/
def Obligations.DemodRaisesAtTheFirstBadSymbol : Prop :=
  ∀ (fmt : Format) (s t : State) (e : ErrCode) (n : Nat),
    demod (descriptorOf fmt) s = .ok (t, .err e n) →
    n = t.cnt.toNat ∧ s.start.toNat + (n + 1) * (descriptorOf fmt).width ≤ s.len.toNat ∧
    (∀ k, k < n → symbolAt (descriptorOf fmt) s k ≠ 0 ∧
      parityOk (symbolAt (descriptorOf fmt) s k) = true) ∧
    symbolAt (descriptorOf fmt) s n ≠ 0 ∧
    (parityOk (symbolAt (descriptorOf fmt) s n) = false ∧ e = .symbolParityError ∨
     parityOk (symbolAt (descriptorOf fmt) s n) = true ∧ n = s.sizeLimit.toNat ∧
       e = .outputBufferTooSmall)

/-- R156, R161: `DEMOD` counts at most `SIZE_LIMIT` characters, writes no cell above `SIZE_LIMIT`, and on
an error writes no terminator. -/
def Obligations.DemodNeverWritesAboveTheLimit : Prop :=
  ∀ (F : Descriptor) (s t : State) (r : AttemptResult), demod F s = .ok (t, r) →
    t.cnt ≤ s.sizeLimit ∧
    (∀ j, s.sizeLimit.toNat < j → Memory.read? t.out j = Memory.read? s.out j) ∧
    ∀ e n, r = .err e n → ∀ j, t.cnt.toNat ≤ j → Memory.read? t.out j = Memory.read? s.out j

/-- R171: with fewer than two characters, or another character than the end sentinel in the second-to-last
place, `ENDCHK` raises `MalformedTerminator(CNT)`; otherwise it passes. -/
def Obligations.EndchkTestsTheSecondToLastCharacter : Prop :=
  ∀ (fmt : Format) (s : State),
    (∀ j, j < s.cnt.toNat → (Memory.read? s.out j).isSome = true) →
    endchk (descriptorOf fmt) s =
      if 2 ≤ s.cnt.toNat ∧ Memory.read? s.out (s.cnt.toNat - 2) = some 0x3F
      then .ok .pass else .ok (.raised .malformedTerminator s.cnt.toNat)

/-- R172: over a run inside the buffer `LRC` passes when every data column sums to an even number, and
otherwise raises `LongitudinalParityError` with the lowest odd column. -/
def Obligations.LrcReportsTheLowestOddColumn : Prop :=
  ∀ (fmt : Format) (s : State), RunReadable (descriptorOf fmt) s →
    (lrc (descriptorOf fmt) s = .ok .pass ∧
      (∀ c, c + 1 < (descriptorOf fmt).width →
        columnTotal (descriptorOf fmt) s c s.cnt.toNat % 2 = 0)) ∨
    ∃ c, lrc (descriptorOf fmt) s = .ok (.raised .longitudinalParityError c) ∧
      c + 1 < (descriptorOf fmt).width ∧
      columnTotal (descriptorOf fmt) s c s.cnt.toNat % 2 = 1 ∧
      ∀ d, d < c → columnTotal (descriptorOf fmt) s d s.cnt.toNat % 2 = 0

/-- R172 corner case (b): the check passes exactly when the data value of the trailing character is the
exclusive-or of the data values of all earlier characters of the run. -/
def Obligations.LrcPassesWhenTheTrailerIsTheExclusiveOr : Prop :=
  ∀ (fmt : Format) (s : State), RunReadable (descriptorOf fmt) s → 1 ≤ s.cnt.toNat →
    (lrc (descriptorOf fmt) s = .ok .pass ↔
      dataValue (descriptorOf fmt).width (symbolAt (descriptorOf fmt) s (s.cnt.toNat - 1)) =
        (List.range (s.cnt.toNat - 1)).foldl
          (fun d k => d ^^^ dataValue (descriptorOf fmt).width (symbolAt (descriptorOf fmt) s k)) 0)

/-- R173: `ENDCHK` runs before `LRC`; when it raises, its error is the attempt's, whatever the columns. -/
def Obligations.TerminatorErrorHidesTheLrc : Prop :=
  ∀ (F : Descriptor) (s : State) (e : ErrCode) (n : Nat),
    endchk F s = .ok (.raised e n) → validate F s = .ok (.err e n) ∧ e = .malformedTerminator

/-- R181: an attempt writes `OUT` and working registers only, and its error is one of six. -/
def Obligations.AttemptWritesOutAndWorkingRegistersOnly : Prop :=
  ∀ (F : Descriptor) (s t : State) (r : AttemptResult), attempt F s = .ok (t, r) →
    t = { s with out := t.out, acc := t.acc, bitcnt := t.bitcnt, idx := t.idx, start := t.start,
                 startFound := t.startFound, cnt := t.cnt } ∧
    ∀ e n, r = .err e n → e ∈ [ErrCode.startSentinelNotFound, .symbolParityError, .invalidSymbol,
      .outputBufferTooSmall, .malformedTerminator, .longitudinalParityError]

/-- R181: an attempt is a function of (`BITS[0 .. LEN-1]`, `LEN`, `FMT`, `SIZE_LIMIT`): two states that
agree on these give the same result, and a record of the same characters. -/
def Obligations.AttemptDependsOnTheBufferAlone : Prop :=
  ∀ s u : State, Readable s → u.len = s.len → u.fmt = s.fmt → u.sizeLimit = s.sizeLimit →
    (∀ i, i < s.len.toNat → Memory.read? u.bits i = Memory.read? s.bits i) →
    ∃ t v r, attempt (descriptorOf s.fmt) s = .ok (t, r) ∧
      attempt (descriptorOf u.fmt) u = .ok (v, r) ∧
      ∀ c, r = .ok c → ∀ j, j ≤ c.toNat → Memory.read? v.out j = Memory.read? t.out j

/-- R182: over a readable buffer `REVERSE` reverses the valid prefix, leaves the cells at and above `LEN`
and everything else, and writes nothing when `LEN <= 1`; applied twice it restores the buffer. -/
def Obligations.ReverseReversesTheValidPrefix : Prop :=
  ∀ s : State, Readable s →
    (∃ m, ReversedPrefix s m ∧ reverse s = .ok { s with bits := m }) ∧
    (s.len ≤ 1 → reverse s = .ok s) ∧
    (Memory.wf s.bits = true → ∃ t, reverse s = .ok t ∧ reverse t = .ok s)

/-! ### `STEP` in the decoding states -/

/-- R186: the as-captured attempt runs; its record is accepted as `FORWARD`, or its code is kept, the whole
prefix reversed, and `DECODING_REV` entered. Nothing else changes but `OUT` and the working registers. -/
def Obligations.StepInDecodingFwd : Prop :=
  ∀ s : State, Readable s → s.phase = .decodingFwd →
    ∃ t r, attempt (descriptorOf s.fmt) s = .ok (t, r) ∧
      t = { s with out := t.out, acc := t.acc, bitcnt := t.bitcnt, idx := t.idx, start := t.start,
                   startFound := t.startFound, cnt := t.cnt } ∧
      match r with
      | .ok c => exec .step s =
          .next { t with errFwd := .noError, count := c, ok := true, dir := .forward,
                         phase := .successFwd, engine := .atRest }
      | .err e _ => ∃ m, ReversedPrefix t m ∧ exec .step s =
          .next { t with errFwd := e, bits := m, phase := .decodingRev, engine := .atRest }

/-- R187: the reversed attempt runs; its record is accepted as `BACKWARD`, or the decode ends in
`FAILURE`. The buffer is not reversed back. Nothing else changes but `OUT` and the working registers. -/
def Obligations.StepInDecodingRev : Prop :=
  ∀ s : State, Readable s → s.phase = .decodingRev →
    ∃ t r, attempt (descriptorOf s.fmt) s = .ok (t, r) ∧
      t = { s with out := t.out, acc := t.acc, bitcnt := t.bitcnt, idx := t.idx, start := t.start,
                   startFound := t.startFound, cnt := t.cnt } ∧
      match r with
      | .ok c => exec .step s =
          .next { t with errRev := .noError, count := c, ok := true, dir := .backward,
                         phase := .successRev, engine := .atRest }
      | .err e _ => exec .step s =
          .next { t with errRev := e, count := 0, ok := false, dir := .unknown,
                         phase := .failure, engine := .atRest }

/-- The record a `STEP` accepts: at least three characters (R171 corner case d), at most `SIZE_LIMIT`
(R40 item 7), the start sentinel first, the end sentinel in the second-to-last place, the terminator
after the last. -/
def Obligations.AcceptedRecordIsFramed : Prop :=
  ∀ s t : State, s.phase.decoding = true → exec .step s = .next t → t.phase.success = true →
    t.ok = true ∧ 3 ≤ t.count.toNat ∧ t.count ≤ s.sizeLimit ∧
    Memory.read? t.out 0 = (descriptorOf s.fmt).map (descriptorOf s.fmt).pattern ∧
    Memory.read? t.out (t.count.toNat - 2) = some 0x3F ∧
    Memory.read? t.out t.count.toNat = some 0x00

/-! ### The symbols -/

/-- R153 to R157 for the 16 legal numeric symbols: with room below `SIZE_LIMIT` the character goes to
`OUT[CNT]` and is counted; nothing else changes. That a symbol is an instruction of its own, one turn of the
demodulator, is the model's choice (log 5), here and in the four statements that follow. -/
def Obligations.LegalNumericSymbolsWriteTheirCharacter : Prop :=
  ∀ p ∈ num5Characters, ∀ s : State, demodulating s = true → s.fmt = .num5 → s.cnt < s.sizeLimit →
    ∃ m, OneCharStored s s.cnt.toNat p.2 m ∧
      exec p.1 s = .next { s with out := m, cnt := s.cnt + 1 }

/-- R153 to R157 for the 64 legal alphanumeric symbols. -/
def Obligations.LegalAlphanumericSymbolsWriteTheirCharacter : Prop :=
  ∀ p ∈ alpha7Characters, ∀ s : State, demodulating s = true → s.fmt = .alpha7 →
    s.cnt < s.sizeLimit →
    ∃ m, OneCharStored s s.cnt.toNat p.2 m ∧
      exec p.1 s = .next { s with out := m, cnt := s.cnt + 1 }

/-- R156: a legal symbol that would be character number `SIZE_LIMIT + 1` writes nothing and takes
`OutputBufferTooSmall`. -/
def Obligations.LegalSymbolsBeyondTheLimitAreTooMany : Prop :=
  ∀ s : State, demodulating s = true → Readable s → s.sizeLimit ≤ s.cnt →
    (s.fmt = .num5 → ∀ p ∈ num5Characters, ErrorTaken .outputBufferTooSmall s (exec p.1 s)) ∧
    (s.fmt = .alpha7 → ∀ p ∈ alpha7Characters, ErrorTaken .outputBufferTooSmall s (exec p.1 s))

/-- R99, R153: an illegal symbol writes no character and takes `SymbolParityError`, for the 15 numeric and
the 63 alphanumeric ones. -/
def Obligations.IllegalSymbolsTakeSymbolParityError : Prop :=
  ∀ s : State, demodulating s = true → Readable s →
    (s.fmt = .num5 → ∀ i ∈ num5Illegal, ErrorTaken .symbolParityError s (exec i s)) ∧
    (s.fmt = .alpha7 → ∀ i ∈ alpha7Illegal, ErrorTaken .symbolParityError s (exec i s))

/-- R152, R158: the null symbol writes no character; the terminator is stored at `OUT[CNT]`, the validator
decides, and the Direction Resolver accepts the record or takes the error. -/
def Obligations.NullSymbolsEndTheRun : Prop :=
  ∀ s : State, demodulating s = true → RunReadable (descriptorOf s.fmt) s →
    ∀ i, (s.fmt = .num5 ∧ i = .sym5Null) ∨ (s.fmt = .alpha7 ∧ i = .sym7Null) →
    ∃ m r, OneCharStored s s.cnt.toNat 0x00 m ∧
      validate (descriptorOf s.fmt) { s with out := m } = .ok r ∧
      match r with
      | .ok c => c = s.cnt ∧ RecordAccepted c { s with out := m } (exec i s)
      | .err e _ => ErrorTaken e { s with out := m } (exec i s)

/-- A symbol of a format the demodulator is not reading changes nothing (the model's choice, log 5). -/
def Obligations.SymbolsElsewhereChangeNothing : Prop :=
  ∀ s : State,
    (demodulating s = false ∨ s.fmt ≠ .num5 → ∀ i ∈ sym5Rows, exec i s = .next s) ∧
    (demodulating s = false ∨ s.fmt ≠ .alpha7 → ∀ i ∈ sym7Rows, exec i s = .next s)

/-! ### Invariants and whole-machine rules -/

/-- The reset state meets the invariant. -/
def Obligations.ResetMeetsTheInvariant : Prop :=
  Inv State.reset

/-- R40: every step from any state that meets the invariant gives a state that meets it. The part of the
invariant about an attempt in progress is the model's (log 5). -/
def Obligations.EveryStepKeepsTheInvariant : Prop :=
  ∀ s t : State, Inv s → step s = .next t → Inv t

/-- R72: no step from a state that meets the invariant performs an access without a value, and neither does
any run from it, whatever the schedule. -/
def Obligations.NoStepFaults : Prop :=
  ∀ s : State, Inv s → (∀ f : Fault, step s ≠ .fault f) ∧ ∀ n : Nat, SafeRun n s

/-- From any state that meets the invariant, with a schedule in which every word spells an event, every run
of any length is free of faults and refusals. -/
def Obligations.WellFormedTracesNeverStop : Prop :=
  ∀ (n : Nat) (s : State), Inv s → traceWf s.input = true →
    ∃ t : State, Sys2Proof.core.run n s = .next t ∧ Inv t

/-- R40 item 9: `LEN` and `FMT` do not change while `STATE` is busy, whatever the instruction but
`HRESET`. -/
def Obligations.BusyStatesKeepLenAndFmt : Prop :=
  ∀ (i : Instr) (s t : State), i ≠ .hreset → s.phase.busy = true → exec i s = .next t →
    t.len = s.len ∧ t.fmt = s.fmt

/-- R226: the complete list of causes of `HAZ`. Each of them sets it, nothing else does, and nothing but
`HAZ` and a latched `CARD` changes then. The premise is R40 item 2. -/
def Obligations.HazHasFourCauses : Prop :=
  ∀ (i : Instr) (s t : State), (s.phase = .capturing → s.card = true) → s.haz = false →
    exec i s = .next t →
    (t.haz = true ↔
      ((∃ fmt, i = .beginFmt fmt ∧ (s.phase.quiet = false ∨ s.armed = true)) ∨
       (∃ n, i = .setlim n ∧ s.phase.quiet = false) ∨
       (∃ b, i = .bit b ∧ s.armed = true ∧ s.phase.busy = true) ∨
       (i = .cardOn ∧ s.card = false ∧ s.phase.busy = true))) ∧
    (t.haz = true → t = { s with haz := true, card := t.card })

/-- R196 (a): the moves of `STATE`. Every one is made by the event the table names and fixed by it and the
current `STATE`, but for the two outcomes in each decoding state. Those are made by `STEP` or, in the model,
by a symbol of the attempt in progress (log 5). -/
def Obligations.StateMovesAsTabulated : Prop :=
  ∀ (i : Instr) (s t : State), exec i s = .next t → t.phase ≠ s.phase →
    (i = .hreset ∧ t.phase = .idle) ∨
    (i = .cardOn ∧ s.card = false ∧ s.phase.quiet = true ∧ t.phase = .capturing) ∨
    (i = .cardOff ∧ s.card = true ∧ s.phase = .capturing ∧ t.phase = .captureComplete) ∨
    (i = .step ∧ s.phase = .captureComplete ∧ t.phase = .decodingFwd) ∨
    (EndsAttempt i s ∧ s.phase = .decodingFwd ∧ (t.phase = .successFwd ∨ t.phase = .decodingRev)) ∨
    (EndsAttempt i s ∧ s.phase = .decodingRev ∧ (t.phase = .successRev ∨ t.phase = .failure))

/-- R31: `DIR` changes only on entering a terminal state, and by `HRESET`; on entering one it is the
direction of that state. In particular the start of a capture keeps it. -/
def Obligations.DirChangesOnlyAtTerminalStates : Prop :=
  ∀ (i : Instr) (s t : State), i ≠ .hreset → exec i s = .next t →
    (t.dir ≠ s.dir → s.phase.terminal = false ∧ t.phase.terminal = true) ∧
    (s.phase.terminal = false → t.phase.terminal = true →
      t.phase = .successFwd ∧ t.dir = .forward ∨ t.phase = .successRev ∧ t.dir = .backward ∨
      t.phase = .failure ∧ t.dir = .unknown)

/-! ### The decode as a whole -/

/-- R190: from `CAPTURE_COMPLETE` exactly two `STEP`s reach a terminal state when the as-captured attempt
succeeds and exactly three otherwise. -/
def Obligations.TwoOrThreeStepsReachATerminalState : Prop :=
  ∀ s : State, Readable s → s.phase = .captureComplete →
    engineSteps 1 s = .next { s with phase := .decodingFwd } ∧
    ∃ v r t, attempt (descriptorOf s.fmt) { s with phase := .decodingFwd } = .ok (v, r) ∧
      engineSteps 2 s = .next t ∧
      match r with
      | .ok _ => t.phase = .successFwd
      | .err _ _ => t.phase = .decodingRev ∧
          ∃ u, engineSteps 3 s = .next u ∧ (u.phase = .successRev ∨ u.phase = .failure)

/-- R191: over a buffer that fits, `RESOLVE` always answers, with a record exactly when the direction is
known. -/
def Obligations.ResolveAlwaysAnswers : Prop :=
  ∀ (cfg : Config) (bits : List Bit) (fmt : Format) (limit : BitVec 8),
    cfg.wf = true → bits.length ≤ cfg.bufCap →
    ∃ r, resolve cfg bits fmt limit = some r ∧ (r.ok = true ↔ r.dir ≠ .unknown)

/-- R191 (a): decoding the final buffer again. After a forward success the result is the same; after a
backward success the same record is found at once as `FORWARD`; after a failure the two codes change
places. -/
def Obligations.DecodingTheFinalBufferAgain : Prop :=
  ∀ (cfg : Config) (bits : List Bit) (fmt : Format) (limit : BitVec 8) (r : Resolved),
    cfg.wf = true → bits.length ≤ cfg.bufCap → resolve cfg bits fmt limit = some r →
    (r.dir = .forward → r.bits = bits ∧ resolve cfg r.bits fmt limit = some r) ∧
    (r.dir = .backward → r.bits = bits.reverse ∧
      resolve cfg r.bits fmt limit = some { r with dir := .forward, errFwd := .noError }) ∧
    (r.dir = .unknown → r.bits = bits.reverse ∧
      resolve cfg r.bits fmt limit =
        some { r with errFwd := r.errRev, errRev := r.errFwd, bits := bits })

/-- R191 (b): a stream that decodes forward, captured backwards, gives the same characters and `BACKWARD`,
provided the as-captured attempt on the reversed stream fails. -/
def Obligations.BackwardSwipeGivesTheSameRecord : Prop :=
  ∀ (cfg : Config) (bits : List Bit) (fmt : Format) (limit : BitVec 8) (r q : Resolved),
    cfg.wf = true → bits.length ≤ cfg.bufCap → resolve cfg bits fmt limit = some r →
    r.dir = .forward → resolve cfg bits.reverse fmt limit = some q → q.errFwd ≠ .noError →
    q = { r with dir := .backward, errFwd := q.errFwd }

/-- A synthetic frame decodes to itself: leading zeros, legal symbols from the start sentinel to one that
maps to the end-sentinel character, their LRC symbol and trailing zeros give `FORWARD` and exactly these
characters, the LRC character last. -/
def Obligations.SyntheticFrameDecodesForward : Prop :=
  ∀ (cfg : Config) (fmt : Format) (vs : List (BitVec 8)) (a b : Nat) (limit : BitVec 8),
    cfg.wf = true →
    (∀ v ∈ vs, v.toNat < 2 ^ (descriptorOf fmt).width ∧ parityOk v = true) →
    vs.head? = some (descriptorOf fmt).pattern →
    vs.getLast?.bind (descriptorOf fmt).map = some 0x3F →
    vs.length + 1 ≤ limit.toNat →
    (frameStream (descriptorOf fmt) a vs b).length ≤ cfg.bufCap →
    resolve cfg (frameStream (descriptorOf fmt) a vs b) fmt limit =
      some { ok := true, dir := .forward, count := BitVec.ofNat 8 (vs.length + 1),
             chars := (vs ++ [lrcSymbol (descriptorOf fmt) vs]).filterMap (descriptorOf fmt).map,
             errFwd := .noError, errRev := .noError,
             bits := frameStream (descriptorOf fmt) a vs b }

/-- The attempt a `STEP` runs is the attempt run symbol by symbol: from the state in which `FIND` has
answered, some number of steps of the machine, each executing one symbol of the buffer, gives exactly what
`STEP` gives (log 5). -/
def Obligations.StepIsItsSymbolsOneByOne : Prop :=
  ∀ s u : State, Readable s → s.phase.decoding = true → find (descriptorOf s.fmt) s = .ok u →
    u.startFound = true →
    ∃ n, Sys2Proof.core.run n (enterDemod u) = exec .step s

/-! ### The ports -/

/-- The output ports of R194 but `OUT_DATA`, each a function of the state, with every code of `STATE`, `DIR`
and the error registers. -/
def Obligations.PortsShowTheRegisters : Prop :=
  ∀ s : State, portAvailable s = s.card ∧
    (∀ p ∈ stateCodes, s.phase = p.1 ↔ portState s = p.2) ∧
    (∀ d ∈ dirCodes, s.dir = d.1 ↔ portDir s = d.2) ∧
    (∀ e ∈ errCodes, s.errFwd = e.1 ↔ portErrFwd s = e.2) ∧
    (∀ e ∈ errCodes, s.errRev = e.1 ↔ portErrRev s = e.2) ∧
    (portDone s = true ↔ s.phase ∈ [.successFwd, .successRev, .failure]) ∧
    portOk s = s.ok ∧ portCount s = s.count ∧
    (s.ok = true → portResult s = some (s.count.setWidth 16)) ∧
    (s.ok = false → s.phase = .failure → portResult s = some 0xFFFF) ∧
    (s.ok = false → s.phase ≠ .failure → portResult s = none) ∧
    (portNoCard s = true ↔ s.card = false ∧ s.phase.quiet = true) ∧
    portOvf s = s.ovf ∧ portHaz s = s.haz

/-- R28: with a record present, `OUT_DATA` shows the stored characters and the terminator after them. -/
def Obligations.OutDataShowsTheRecord : Prop :=
  ∀ s : State, Inv s → s.ok = true →
    portOutData s s.count = 0x00 ∧
    ∀ j : BitVec 8, j ≤ s.count → Memory.read? s.out j.toNat = some (portOutData s j)

/-- R225: the events of one instant are applied in the order `HRESET`, command, `CARDON` or `CARDOFF`,
`BIT`, `STEP`; whatever is absent is left out and the order stays. -/
def Obligations.SimultaneousEventsAreSerialised : Prop :=
  ∀ (p : Instant) (c : Command) (e : CardEdge) (b : Bit),
    (p.command = none ∨ p.command = some c) → (p.card = none ∨ p.card = some e) →
    (p.capture = none ∨ p.capture = some b) →
    (serialise p).Sublist [.hreset, commandInstr c, edgeInstr e, .bit b, .step] ∧
    ((.hreset ∈ serialise p ↔ p.hreset = true) ∧ (.step ∈ serialise p ↔ p.engine = true) ∧
     (.bit b ∈ serialise p ↔ p.capture = some b) ∧
     (edgeInstr e ∈ serialise p ↔ p.card = some e) ∧
     (commandInstr c ∈ serialise p ↔ p.command = some c))
end

