-- ==== Sys2Proof/Laws/Memory.lean ====
section
/-! SUPPORT. The laws of the two memories: read after write, the canonical form, bounds of the listed
indexes, and that equal reads of canonical memories make them equal. -/

namespace Sys2Proof.Machine

variable {w : Nat}

@[simp] theorem Memory.read?_nil (i : Nat) : Memory.read? ([] : Cells w) i = none := rfl

theorem Memory.read?_cons (j : Nat) (v : BitVec w) (m : Cells w) (i : Nat) :
    Memory.read? ((j, v) :: m) i = if i = j then some v else Memory.read? m i := rfl

@[simp] theorem Memory.read?_write_same (m : Cells w) (i : Nat) (v : BitVec w) :
    Memory.read? (Memory.write m i v) i = some v := by
  induction m with
  | nil => simp [Memory.write, Memory.read?]
  | cons p m ih =>
    obtain ⟨j, u⟩ := p
    by_cases h1 : i < j
    · simp [Memory.write, h1, Memory.read?]
    · by_cases h2 : i = j
      · simp [Memory.write, h2, Memory.read?]
      · simp [Memory.write, h1, h2, Memory.read?, ih]

theorem Memory.read?_write_other (m : Cells w) {i k : Nat} (v : BitVec w) (h : k ≠ i) :
    Memory.read? (Memory.write m i v) k = Memory.read? m k := by
  induction m with
  | nil => simp [Memory.write, Memory.read?, h]
  | cons p m ih =>
    obtain ⟨j, u⟩ := p
    by_cases h1 : i < j
    · simp [Memory.write, h1, Memory.read?, h]
    · by_cases h2 : i = j
      · subst h2; simp [Memory.write, Memory.read?, h]
      · simp [Memory.write, h1, h2, Memory.read?, ih]

/-- Read after write, at every index. -/
theorem Memory.read?_write (m : Cells w) (i k : Nat) (v : BitVec w) :
    Memory.read? (Memory.write m i v) k = if k = i then some v else Memory.read? m k := by
  by_cases h : k = i
  · subst h; simp
  · simp [h, Memory.read?_write_other m v h]

theorem Memory.mem_write {m : Cells w} {i : Nat} {v : BitVec w} {p : Nat × BitVec w}
    (h : p ∈ Memory.write m i v) : p = (i, v) ∨ p ∈ m := by
  induction m with
  | nil => simp only [Memory.write, List.mem_singleton] at h; exact .inl h
  | cons q m ih =>
    obtain ⟨j, u⟩ := q
    by_cases h1 : i < j
    · simpa [Memory.write, h1] using h
    · by_cases h2 : i = j
      · simp only [Memory.write, h2, lt_irrefl, if_false, if_true, List.mem_cons] at h ⊢
        tauto
      · simp only [Memory.write, h1, h2, if_false, List.mem_cons] at h ⊢
        rcases h with h | h
        · exact .inr (.inl h)
        · exact (ih h).imp_right .inr

/-- Every memory operation keeps the canonical form. -/
theorem Memory.wf_write {m : Cells w} (h : Memory.wf m = true) (i : Nat) (v : BitVec w) :
    Memory.wf (Memory.write m i v) = true := by
  simp only [Memory.wf, decide_eq_true_eq] at h ⊢
  induction m with
  | nil => simp [Memory.write]
  | cons p m ih =>
    obtain ⟨j, u⟩ := p
    rw [List.pairwise_cons] at h
    by_cases h1 : i < j
    · simp only [Memory.write, h1, if_true, List.pairwise_cons, List.mem_cons]
      refine ⟨?_, h.1, h.2⟩
      rintro q (rfl | hq)
      · exact h1
      · exact h1.trans (h.1 q hq)
    · by_cases h2 : i = j
      · subst h2
        simp only [Memory.write, lt_irrefl, if_false, if_true, List.pairwise_cons]
        exact ⟨fun q hq => h.1 q hq, h.2⟩
      · simp only [Memory.write, h1, h2, if_false, List.pairwise_cons]
        refine ⟨fun q hq => ?_, ih h.2⟩
        rcases Memory.mem_write hq with rfl | hq
        · show j < i
          omega
        · exact h.1 q hq

theorem Memory.wf_nil : Memory.wf ([] : Cells w) = true := rfl

/-- A write below a bound keeps every listed index below it. -/
theorem Memory.bound_write {m : Cells w} {n : Nat} (h : ∀ p ∈ m, p.1 < n) {i : Nat} (hi : i < n)
    (v : BitVec w) : ∀ p ∈ Memory.write m i v, p.1 < n := by
  intro p hp
  rcases Memory.mem_write hp with rfl | hp
  · exact hi
  · exact h p hp

theorem Memory.read?_eq_none_of_lt {m : Cells w} {i : Nat} (h : ∀ p ∈ m, i < p.1) :
    Memory.read? m i = none := by
  induction m with
  | nil => rfl
  | cons p m ih =>
    obtain ⟨j, v⟩ := p
    have hj : i < j := h (j, v) List.mem_cons_self
    rw [Memory.read?_cons, if_neg (by omega)]
    exact ih fun q hq => h q (List.mem_cons_of_mem _ hq)

/-- Two canonical memories that read alike everywhere are the same list. -/
theorem Memory.ext_of_read? {m m' : Cells w} (h : Memory.wf m = true) (h' : Memory.wf m' = true)
    (hr : ∀ i, Memory.read? m i = Memory.read? m' i) : m = m' := by
  simp only [Memory.wf, decide_eq_true_eq] at h h'
  induction m generalizing m' with
  | nil =>
    cases m' with
    | nil => rfl
    | cons q m' => obtain ⟨j, v⟩ := q; have := hr j; simp [Memory.read?_cons] at this
  | cons p m ih =>
    obtain ⟨i, u⟩ := p
    cases m' with
    | nil => have := hr i; simp [Memory.read?_cons] at this
    | cons q m' =>
      obtain ⟨j, v⟩ := q
      rw [List.pairwise_cons] at h h'
      have hij : i = j := by
        rcases Nat.lt_trichotomy i j with hlt | heq | hgt
        · have h1 := hr i
          rw [Memory.read?_cons, Memory.read?_cons, if_pos rfl, if_neg (by omega),
            Memory.read?_eq_none_of_lt fun q hq => hlt.trans (h'.1 q hq)] at h1
          cases h1
        · exact heq
        · have h1 := hr j
          rw [Memory.read?_cons, Memory.read?_cons, if_pos rfl, if_neg (by omega),
            Memory.read?_eq_none_of_lt fun q hq => hgt.trans (h.1 q hq)] at h1
          cases h1
      subst hij
      have huv : u = v := by
        have h1 := hr i
        simpa [Memory.read?_cons] using h1
      subst huv
      refine congrArg _ (ih (fun k => ?_) h.2 h'.2)
      by_cases hk : k = i
      · subst hk
        rw [Memory.read?_eq_none_of_lt fun q hq => h.1 q hq,
          Memory.read?_eq_none_of_lt fun q hq => h'.1 q hq]
      · have h1 := hr k
        simpa [Memory.read?_cons, hk] using h1

end Sys2Proof.Machine
end

