-- ==== Sys2Proof/Laws/State.lean ====
section
/-! SUPPORT. What each named update does to each field of the state, so that no proof unfolds an update. -/

namespace Sys2Proof.Machine

@[simp] theorem markHaz_bits (s : State) : (markHaz s).bits = s.bits := rfl
@[simp] theorem markHaz_len (s : State) : (markHaz s).len = s.len := rfl
@[simp] theorem markHaz_armed (s : State) : (markHaz s).armed = s.armed := rfl
@[simp] theorem markHaz_fmt (s : State) : (markHaz s).fmt = s.fmt := rfl
@[simp] theorem markHaz_sizeLimit (s : State) : (markHaz s).sizeLimit = s.sizeLimit := rfl
@[simp] theorem markHaz_card (s : State) : (markHaz s).card = s.card := rfl
@[simp] theorem markHaz_phase (s : State) : (markHaz s).phase = s.phase := rfl
@[simp] theorem markHaz_out (s : State) : (markHaz s).out = s.out := rfl
@[simp] theorem markHaz_count (s : State) : (markHaz s).count = s.count := rfl
@[simp] theorem markHaz_ok (s : State) : (markHaz s).ok = s.ok := rfl
@[simp] theorem markHaz_dir (s : State) : (markHaz s).dir = s.dir := rfl
@[simp] theorem markHaz_errFwd (s : State) : (markHaz s).errFwd = s.errFwd := rfl
@[simp] theorem markHaz_errRev (s : State) : (markHaz s).errRev = s.errRev := rfl
@[simp] theorem markHaz_ovf (s : State) : (markHaz s).ovf = s.ovf := rfl
@[simp] theorem markHaz_haz (s : State) : (markHaz s).haz = true := rfl
@[simp] theorem markHaz_acc (s : State) : (markHaz s).acc = s.acc := rfl
@[simp] theorem markHaz_bitcnt (s : State) : (markHaz s).bitcnt = s.bitcnt := rfl
@[simp] theorem markHaz_idx (s : State) : (markHaz s).idx = s.idx := rfl
@[simp] theorem markHaz_start (s : State) : (markHaz s).start = s.start := rfl
@[simp] theorem markHaz_startFound (s : State) : (markHaz s).startFound = s.startFound := rfl
@[simp] theorem markHaz_cnt (s : State) : (markHaz s).cnt = s.cnt := rfl
@[simp] theorem markHaz_cfg (s : State) : (markHaz s).cfg = s.cfg := rfl
@[simp] theorem markHaz_engine (s : State) : (markHaz s).engine = s.engine := rfl
@[simp] theorem markHaz_draws (s : State) : (markHaz s).draws = s.draws := rfl
@[simp] theorem markHaz_input (s : State) : (markHaz s).input = s.input := rfl

@[simp] theorem arm_bits (f : Format) (s : State) : (arm f s).bits = s.bits := rfl
@[simp] theorem arm_len (f : Format) (s : State) : (arm f s).len = s.len := rfl
@[simp] theorem arm_armed (f : Format) (s : State) : (arm f s).armed = true := rfl
@[simp] theorem arm_fmt (f : Format) (s : State) : (arm f s).fmt = f := rfl
@[simp] theorem arm_sizeLimit (f : Format) (s : State) : (arm f s).sizeLimit = s.sizeLimit := rfl
@[simp] theorem arm_card (f : Format) (s : State) : (arm f s).card = s.card := rfl
@[simp] theorem arm_phase (f : Format) (s : State) : (arm f s).phase = s.phase := rfl
@[simp] theorem arm_out (f : Format) (s : State) : (arm f s).out = s.out := rfl
@[simp] theorem arm_count (f : Format) (s : State) : (arm f s).count = s.count := rfl
@[simp] theorem arm_ok (f : Format) (s : State) : (arm f s).ok = s.ok := rfl
@[simp] theorem arm_dir (f : Format) (s : State) : (arm f s).dir = s.dir := rfl
@[simp] theorem arm_errFwd (f : Format) (s : State) : (arm f s).errFwd = s.errFwd := rfl
@[simp] theorem arm_errRev (f : Format) (s : State) : (arm f s).errRev = s.errRev := rfl
@[simp] theorem arm_ovf (f : Format) (s : State) : (arm f s).ovf = s.ovf := rfl
@[simp] theorem arm_haz (f : Format) (s : State) : (arm f s).haz = s.haz := rfl
@[simp] theorem arm_acc (f : Format) (s : State) : (arm f s).acc = s.acc := rfl
@[simp] theorem arm_bitcnt (f : Format) (s : State) : (arm f s).bitcnt = s.bitcnt := rfl
@[simp] theorem arm_idx (f : Format) (s : State) : (arm f s).idx = s.idx := rfl
@[simp] theorem arm_start (f : Format) (s : State) : (arm f s).start = s.start := rfl
@[simp] theorem arm_startFound (f : Format) (s : State) : (arm f s).startFound = s.startFound := rfl
@[simp] theorem arm_cnt (f : Format) (s : State) : (arm f s).cnt = s.cnt := rfl
@[simp] theorem arm_cfg (f : Format) (s : State) : (arm f s).cfg = s.cfg := rfl
@[simp] theorem arm_engine (f : Format) (s : State) : (arm f s).engine = s.engine := rfl
@[simp] theorem arm_draws (f : Format) (s : State) : (arm f s).draws = s.draws := rfl
@[simp] theorem arm_input (f : Format) (s : State) : (arm f s).input = s.input := rfl

@[simp] theorem disarm_bits (s : State) : (disarm s).bits = s.bits := rfl
@[simp] theorem disarm_len (s : State) : (disarm s).len = s.len := rfl
@[simp] theorem disarm_armed (s : State) : (disarm s).armed = false := rfl
@[simp] theorem disarm_fmt (s : State) : (disarm s).fmt = s.fmt := rfl
@[simp] theorem disarm_sizeLimit (s : State) : (disarm s).sizeLimit = s.sizeLimit := rfl
@[simp] theorem disarm_card (s : State) : (disarm s).card = s.card := rfl
@[simp] theorem disarm_phase (s : State) : (disarm s).phase = s.phase := rfl
@[simp] theorem disarm_out (s : State) : (disarm s).out = s.out := rfl
@[simp] theorem disarm_count (s : State) : (disarm s).count = s.count := rfl
@[simp] theorem disarm_ok (s : State) : (disarm s).ok = s.ok := rfl
@[simp] theorem disarm_dir (s : State) : (disarm s).dir = s.dir := rfl
@[simp] theorem disarm_errFwd (s : State) : (disarm s).errFwd = s.errFwd := rfl
@[simp] theorem disarm_errRev (s : State) : (disarm s).errRev = s.errRev := rfl
@[simp] theorem disarm_ovf (s : State) : (disarm s).ovf = s.ovf := rfl
@[simp] theorem disarm_haz (s : State) : (disarm s).haz = s.haz := rfl
@[simp] theorem disarm_acc (s : State) : (disarm s).acc = s.acc := rfl
@[simp] theorem disarm_bitcnt (s : State) : (disarm s).bitcnt = s.bitcnt := rfl
@[simp] theorem disarm_idx (s : State) : (disarm s).idx = s.idx := rfl
@[simp] theorem disarm_start (s : State) : (disarm s).start = s.start := rfl
@[simp] theorem disarm_startFound (s : State) : (disarm s).startFound = s.startFound := rfl
@[simp] theorem disarm_cnt (s : State) : (disarm s).cnt = s.cnt := rfl
@[simp] theorem disarm_cfg (s : State) : (disarm s).cfg = s.cfg := rfl
@[simp] theorem disarm_engine (s : State) : (disarm s).engine = s.engine := rfl
@[simp] theorem disarm_draws (s : State) : (disarm s).draws = s.draws := rfl
@[simp] theorem disarm_input (s : State) : (disarm s).input = s.input := rfl

@[simp] theorem setLimit_bits (n : BitVec 8) (s : State) : (setLimit n s).bits = s.bits := rfl
@[simp] theorem setLimit_len (n : BitVec 8) (s : State) : (setLimit n s).len = s.len := rfl
@[simp] theorem setLimit_armed (n : BitVec 8) (s : State) : (setLimit n s).armed = s.armed := rfl
@[simp] theorem setLimit_fmt (n : BitVec 8) (s : State) : (setLimit n s).fmt = s.fmt := rfl
@[simp] theorem setLimit_sizeLimit (n : BitVec 8) (s : State) : (setLimit n s).sizeLimit = n := rfl
@[simp] theorem setLimit_card (n : BitVec 8) (s : State) : (setLimit n s).card = s.card := rfl
@[simp] theorem setLimit_phase (n : BitVec 8) (s : State) : (setLimit n s).phase = s.phase := rfl
@[simp] theorem setLimit_out (n : BitVec 8) (s : State) : (setLimit n s).out = s.out := rfl
@[simp] theorem setLimit_count (n : BitVec 8) (s : State) : (setLimit n s).count = s.count := rfl
@[simp] theorem setLimit_ok (n : BitVec 8) (s : State) : (setLimit n s).ok = s.ok := rfl
@[simp] theorem setLimit_dir (n : BitVec 8) (s : State) : (setLimit n s).dir = s.dir := rfl
@[simp] theorem setLimit_errFwd (n : BitVec 8) (s : State) : (setLimit n s).errFwd = s.errFwd := rfl
@[simp] theorem setLimit_errRev (n : BitVec 8) (s : State) : (setLimit n s).errRev = s.errRev := rfl
@[simp] theorem setLimit_ovf (n : BitVec 8) (s : State) : (setLimit n s).ovf = s.ovf := rfl
@[simp] theorem setLimit_haz (n : BitVec 8) (s : State) : (setLimit n s).haz = s.haz := rfl
@[simp] theorem setLimit_acc (n : BitVec 8) (s : State) : (setLimit n s).acc = s.acc := rfl
@[simp] theorem setLimit_bitcnt (n : BitVec 8) (s : State) : (setLimit n s).bitcnt = s.bitcnt := rfl
@[simp] theorem setLimit_idx (n : BitVec 8) (s : State) : (setLimit n s).idx = s.idx := rfl
@[simp] theorem setLimit_start (n : BitVec 8) (s : State) : (setLimit n s).start = s.start := rfl
@[simp] theorem setLimit_startFound (n : BitVec 8) (s : State) : (setLimit n s).startFound = s.startFound := rfl
@[simp] theorem setLimit_cnt (n : BitVec 8) (s : State) : (setLimit n s).cnt = s.cnt := rfl
@[simp] theorem setLimit_cfg (n : BitVec 8) (s : State) : (setLimit n s).cfg = s.cfg := rfl
@[simp] theorem setLimit_engine (n : BitVec 8) (s : State) : (setLimit n s).engine = s.engine := rfl
@[simp] theorem setLimit_draws (n : BitVec 8) (s : State) : (setLimit n s).draws = s.draws := rfl
@[simp] theorem setLimit_input (n : BitVec 8) (s : State) : (setLimit n s).input = s.input := rfl

@[simp] theorem latchCard_bits (b : Bool) (s : State) : (latchCard b s).bits = s.bits := rfl
@[simp] theorem latchCard_len (b : Bool) (s : State) : (latchCard b s).len = s.len := rfl
@[simp] theorem latchCard_armed (b : Bool) (s : State) : (latchCard b s).armed = s.armed := rfl
@[simp] theorem latchCard_fmt (b : Bool) (s : State) : (latchCard b s).fmt = s.fmt := rfl
@[simp] theorem latchCard_sizeLimit (b : Bool) (s : State) : (latchCard b s).sizeLimit = s.sizeLimit := rfl
@[simp] theorem latchCard_card (b : Bool) (s : State) : (latchCard b s).card = b := rfl
@[simp] theorem latchCard_phase (b : Bool) (s : State) : (latchCard b s).phase = s.phase := rfl
@[simp] theorem latchCard_out (b : Bool) (s : State) : (latchCard b s).out = s.out := rfl
@[simp] theorem latchCard_count (b : Bool) (s : State) : (latchCard b s).count = s.count := rfl
@[simp] theorem latchCard_ok (b : Bool) (s : State) : (latchCard b s).ok = s.ok := rfl
@[simp] theorem latchCard_dir (b : Bool) (s : State) : (latchCard b s).dir = s.dir := rfl
@[simp] theorem latchCard_errFwd (b : Bool) (s : State) : (latchCard b s).errFwd = s.errFwd := rfl
@[simp] theorem latchCard_errRev (b : Bool) (s : State) : (latchCard b s).errRev = s.errRev := rfl
@[simp] theorem latchCard_ovf (b : Bool) (s : State) : (latchCard b s).ovf = s.ovf := rfl
@[simp] theorem latchCard_haz (b : Bool) (s : State) : (latchCard b s).haz = s.haz := rfl
@[simp] theorem latchCard_acc (b : Bool) (s : State) : (latchCard b s).acc = s.acc := rfl
@[simp] theorem latchCard_bitcnt (b : Bool) (s : State) : (latchCard b s).bitcnt = s.bitcnt := rfl
@[simp] theorem latchCard_idx (b : Bool) (s : State) : (latchCard b s).idx = s.idx := rfl
@[simp] theorem latchCard_start (b : Bool) (s : State) : (latchCard b s).start = s.start := rfl
@[simp] theorem latchCard_startFound (b : Bool) (s : State) : (latchCard b s).startFound = s.startFound := rfl
@[simp] theorem latchCard_cnt (b : Bool) (s : State) : (latchCard b s).cnt = s.cnt := rfl
@[simp] theorem latchCard_cfg (b : Bool) (s : State) : (latchCard b s).cfg = s.cfg := rfl
@[simp] theorem latchCard_engine (b : Bool) (s : State) : (latchCard b s).engine = s.engine := rfl
@[simp] theorem latchCard_draws (b : Bool) (s : State) : (latchCard b s).draws = s.draws := rfl
@[simp] theorem latchCard_input (b : Bool) (s : State) : (latchCard b s).input = s.input := rfl

@[simp] theorem setPhase_bits (p : Phase) (s : State) : (setPhase p s).bits = s.bits := rfl
@[simp] theorem setPhase_len (p : Phase) (s : State) : (setPhase p s).len = s.len := rfl
@[simp] theorem setPhase_armed (p : Phase) (s : State) : (setPhase p s).armed = s.armed := rfl
@[simp] theorem setPhase_fmt (p : Phase) (s : State) : (setPhase p s).fmt = s.fmt := rfl
@[simp] theorem setPhase_sizeLimit (p : Phase) (s : State) : (setPhase p s).sizeLimit = s.sizeLimit := rfl
@[simp] theorem setPhase_card (p : Phase) (s : State) : (setPhase p s).card = s.card := rfl
@[simp] theorem setPhase_phase (p : Phase) (s : State) : (setPhase p s).phase = p := rfl
@[simp] theorem setPhase_out (p : Phase) (s : State) : (setPhase p s).out = s.out := rfl
@[simp] theorem setPhase_count (p : Phase) (s : State) : (setPhase p s).count = s.count := rfl
@[simp] theorem setPhase_ok (p : Phase) (s : State) : (setPhase p s).ok = s.ok := rfl
@[simp] theorem setPhase_dir (p : Phase) (s : State) : (setPhase p s).dir = s.dir := rfl
@[simp] theorem setPhase_errFwd (p : Phase) (s : State) : (setPhase p s).errFwd = s.errFwd := rfl
@[simp] theorem setPhase_errRev (p : Phase) (s : State) : (setPhase p s).errRev = s.errRev := rfl
@[simp] theorem setPhase_ovf (p : Phase) (s : State) : (setPhase p s).ovf = s.ovf := rfl
@[simp] theorem setPhase_haz (p : Phase) (s : State) : (setPhase p s).haz = s.haz := rfl
@[simp] theorem setPhase_acc (p : Phase) (s : State) : (setPhase p s).acc = s.acc := rfl
@[simp] theorem setPhase_bitcnt (p : Phase) (s : State) : (setPhase p s).bitcnt = s.bitcnt := rfl
@[simp] theorem setPhase_idx (p : Phase) (s : State) : (setPhase p s).idx = s.idx := rfl
@[simp] theorem setPhase_start (p : Phase) (s : State) : (setPhase p s).start = s.start := rfl
@[simp] theorem setPhase_startFound (p : Phase) (s : State) : (setPhase p s).startFound = s.startFound := rfl
@[simp] theorem setPhase_cnt (p : Phase) (s : State) : (setPhase p s).cnt = s.cnt := rfl
@[simp] theorem setPhase_cfg (p : Phase) (s : State) : (setPhase p s).cfg = s.cfg := rfl
@[simp] theorem setPhase_engine (p : Phase) (s : State) : (setPhase p s).engine = s.engine := rfl
@[simp] theorem setPhase_draws (p : Phase) (s : State) : (setPhase p s).draws = s.draws := rfl
@[simp] theorem setPhase_input (p : Phase) (s : State) : (setPhase p s).input = s.input := rfl

@[simp] theorem resetBuffer_bits (s : State) : (resetBuffer s).bits = s.bits := rfl
@[simp] theorem resetBuffer_len (s : State) : (resetBuffer s).len = 0 := rfl
@[simp] theorem resetBuffer_armed (s : State) : (resetBuffer s).armed = s.armed := rfl
@[simp] theorem resetBuffer_fmt (s : State) : (resetBuffer s).fmt = s.fmt := rfl
@[simp] theorem resetBuffer_sizeLimit (s : State) : (resetBuffer s).sizeLimit = s.sizeLimit := rfl
@[simp] theorem resetBuffer_card (s : State) : (resetBuffer s).card = s.card := rfl
@[simp] theorem resetBuffer_phase (s : State) : (resetBuffer s).phase = s.phase := rfl
@[simp] theorem resetBuffer_out (s : State) : (resetBuffer s).out = s.out := rfl
@[simp] theorem resetBuffer_count (s : State) : (resetBuffer s).count = s.count := rfl
@[simp] theorem resetBuffer_ok (s : State) : (resetBuffer s).ok = s.ok := rfl
@[simp] theorem resetBuffer_dir (s : State) : (resetBuffer s).dir = s.dir := rfl
@[simp] theorem resetBuffer_errFwd (s : State) : (resetBuffer s).errFwd = s.errFwd := rfl
@[simp] theorem resetBuffer_errRev (s : State) : (resetBuffer s).errRev = s.errRev := rfl
@[simp] theorem resetBuffer_ovf (s : State) : (resetBuffer s).ovf = false := rfl
@[simp] theorem resetBuffer_haz (s : State) : (resetBuffer s).haz = s.haz := rfl
@[simp] theorem resetBuffer_acc (s : State) : (resetBuffer s).acc = s.acc := rfl
@[simp] theorem resetBuffer_bitcnt (s : State) : (resetBuffer s).bitcnt = s.bitcnt := rfl
@[simp] theorem resetBuffer_idx (s : State) : (resetBuffer s).idx = s.idx := rfl
@[simp] theorem resetBuffer_start (s : State) : (resetBuffer s).start = s.start := rfl
@[simp] theorem resetBuffer_startFound (s : State) : (resetBuffer s).startFound = s.startFound := rfl
@[simp] theorem resetBuffer_cnt (s : State) : (resetBuffer s).cnt = s.cnt := rfl
@[simp] theorem resetBuffer_cfg (s : State) : (resetBuffer s).cfg = s.cfg := rfl
@[simp] theorem resetBuffer_engine (s : State) : (resetBuffer s).engine = s.engine := rfl
@[simp] theorem resetBuffer_draws (s : State) : (resetBuffer s).draws = s.draws := rfl
@[simp] theorem resetBuffer_input (s : State) : (resetBuffer s).input = s.input := rfl

@[simp] theorem openCapture_bits (s : State) : (openCapture s).bits = s.bits := rfl
@[simp] theorem openCapture_len (s : State) : (openCapture s).len = s.len := rfl
@[simp] theorem openCapture_armed (s : State) : (openCapture s).armed = s.armed := rfl
@[simp] theorem openCapture_fmt (s : State) : (openCapture s).fmt = s.fmt := rfl
@[simp] theorem openCapture_sizeLimit (s : State) : (openCapture s).sizeLimit = s.sizeLimit := rfl
@[simp] theorem openCapture_card (s : State) : (openCapture s).card = s.card := rfl
@[simp] theorem openCapture_phase (s : State) : (openCapture s).phase = .capturing := rfl
@[simp] theorem openCapture_out (s : State) : (openCapture s).out = s.out := rfl
@[simp] theorem openCapture_count (s : State) : (openCapture s).count = 0 := rfl
@[simp] theorem openCapture_ok (s : State) : (openCapture s).ok = false := rfl
@[simp] theorem openCapture_dir (s : State) : (openCapture s).dir = s.dir := rfl
@[simp] theorem openCapture_errFwd (s : State) : (openCapture s).errFwd = .noError := rfl
@[simp] theorem openCapture_errRev (s : State) : (openCapture s).errRev = .noError := rfl
@[simp] theorem openCapture_ovf (s : State) : (openCapture s).ovf = s.ovf := rfl
@[simp] theorem openCapture_haz (s : State) : (openCapture s).haz = s.haz := rfl
@[simp] theorem openCapture_acc (s : State) : (openCapture s).acc = s.acc := rfl
@[simp] theorem openCapture_bitcnt (s : State) : (openCapture s).bitcnt = s.bitcnt := rfl
@[simp] theorem openCapture_idx (s : State) : (openCapture s).idx = s.idx := rfl
@[simp] theorem openCapture_start (s : State) : (openCapture s).start = s.start := rfl
@[simp] theorem openCapture_startFound (s : State) : (openCapture s).startFound = s.startFound := rfl
@[simp] theorem openCapture_cnt (s : State) : (openCapture s).cnt = s.cnt := rfl
@[simp] theorem openCapture_cfg (s : State) : (openCapture s).cfg = s.cfg := rfl
@[simp] theorem openCapture_engine (s : State) : (openCapture s).engine = s.engine := rfl
@[simp] theorem openCapture_draws (s : State) : (openCapture s).draws = s.draws := rfl
@[simp] theorem openCapture_input (s : State) : (openCapture s).input = s.input := rfl

@[simp] theorem markOverflow_bits (s : State) : (markOverflow s).bits = s.bits := rfl
@[simp] theorem markOverflow_len (s : State) : (markOverflow s).len = s.len := rfl
@[simp] theorem markOverflow_armed (s : State) : (markOverflow s).armed = s.armed := rfl
@[simp] theorem markOverflow_fmt (s : State) : (markOverflow s).fmt = s.fmt := rfl
@[simp] theorem markOverflow_sizeLimit (s : State) : (markOverflow s).sizeLimit = s.sizeLimit := rfl
@[simp] theorem markOverflow_card (s : State) : (markOverflow s).card = s.card := rfl
@[simp] theorem markOverflow_phase (s : State) : (markOverflow s).phase = s.phase := rfl
@[simp] theorem markOverflow_out (s : State) : (markOverflow s).out = s.out := rfl
@[simp] theorem markOverflow_count (s : State) : (markOverflow s).count = s.count := rfl
@[simp] theorem markOverflow_ok (s : State) : (markOverflow s).ok = s.ok := rfl
@[simp] theorem markOverflow_dir (s : State) : (markOverflow s).dir = s.dir := rfl
@[simp] theorem markOverflow_errFwd (s : State) : (markOverflow s).errFwd = s.errFwd := rfl
@[simp] theorem markOverflow_errRev (s : State) : (markOverflow s).errRev = s.errRev := rfl
@[simp] theorem markOverflow_ovf (s : State) : (markOverflow s).ovf = true := rfl
@[simp] theorem markOverflow_haz (s : State) : (markOverflow s).haz = s.haz := rfl
@[simp] theorem markOverflow_acc (s : State) : (markOverflow s).acc = s.acc := rfl
@[simp] theorem markOverflow_bitcnt (s : State) : (markOverflow s).bitcnt = s.bitcnt := rfl
@[simp] theorem markOverflow_idx (s : State) : (markOverflow s).idx = s.idx := rfl
@[simp] theorem markOverflow_start (s : State) : (markOverflow s).start = s.start := rfl
@[simp] theorem markOverflow_startFound (s : State) : (markOverflow s).startFound = s.startFound := rfl
@[simp] theorem markOverflow_cnt (s : State) : (markOverflow s).cnt = s.cnt := rfl
@[simp] theorem markOverflow_cfg (s : State) : (markOverflow s).cfg = s.cfg := rfl
@[simp] theorem markOverflow_engine (s : State) : (markOverflow s).engine = s.engine := rfl
@[simp] theorem markOverflow_draws (s : State) : (markOverflow s).draws = s.draws := rfl
@[simp] theorem markOverflow_input (s : State) : (markOverflow s).input = s.input := rfl

@[simp] theorem growBuffer_bits (s : State) : (growBuffer s).bits = s.bits := rfl
@[simp] theorem growBuffer_len (s : State) : (growBuffer s).len = s.len + 1 := rfl
@[simp] theorem growBuffer_armed (s : State) : (growBuffer s).armed = s.armed := rfl
@[simp] theorem growBuffer_fmt (s : State) : (growBuffer s).fmt = s.fmt := rfl
@[simp] theorem growBuffer_sizeLimit (s : State) : (growBuffer s).sizeLimit = s.sizeLimit := rfl
@[simp] theorem growBuffer_card (s : State) : (growBuffer s).card = s.card := rfl
@[simp] theorem growBuffer_phase (s : State) : (growBuffer s).phase = s.phase := rfl
@[simp] theorem growBuffer_out (s : State) : (growBuffer s).out = s.out := rfl
@[simp] theorem growBuffer_count (s : State) : (growBuffer s).count = s.count := rfl
@[simp] theorem growBuffer_ok (s : State) : (growBuffer s).ok = s.ok := rfl
@[simp] theorem growBuffer_dir (s : State) : (growBuffer s).dir = s.dir := rfl
@[simp] theorem growBuffer_errFwd (s : State) : (growBuffer s).errFwd = s.errFwd := rfl
@[simp] theorem growBuffer_errRev (s : State) : (growBuffer s).errRev = s.errRev := rfl
@[simp] theorem growBuffer_ovf (s : State) : (growBuffer s).ovf = s.ovf := rfl
@[simp] theorem growBuffer_haz (s : State) : (growBuffer s).haz = s.haz := rfl
@[simp] theorem growBuffer_acc (s : State) : (growBuffer s).acc = s.acc := rfl
@[simp] theorem growBuffer_bitcnt (s : State) : (growBuffer s).bitcnt = s.bitcnt := rfl
@[simp] theorem growBuffer_idx (s : State) : (growBuffer s).idx = s.idx := rfl
@[simp] theorem growBuffer_start (s : State) : (growBuffer s).start = s.start := rfl
@[simp] theorem growBuffer_startFound (s : State) : (growBuffer s).startFound = s.startFound := rfl
@[simp] theorem growBuffer_cnt (s : State) : (growBuffer s).cnt = s.cnt := rfl
@[simp] theorem growBuffer_cfg (s : State) : (growBuffer s).cfg = s.cfg := rfl
@[simp] theorem growBuffer_engine (s : State) : (growBuffer s).engine = s.engine := rfl
@[simp] theorem growBuffer_draws (s : State) : (growBuffer s).draws = s.draws := rfl
@[simp] theorem growBuffer_input (s : State) : (growBuffer s).input = s.input := rfl

@[simp] theorem outWriteAtCnt_bits (s : State) (v : Char8) : (outWriteAtCnt s v).bits = s.bits := rfl
@[simp] theorem outWriteAtCnt_len (s : State) (v : Char8) : (outWriteAtCnt s v).len = s.len := rfl
@[simp] theorem outWriteAtCnt_armed (s : State) (v : Char8) : (outWriteAtCnt s v).armed = s.armed := rfl
@[simp] theorem outWriteAtCnt_fmt (s : State) (v : Char8) : (outWriteAtCnt s v).fmt = s.fmt := rfl
@[simp] theorem outWriteAtCnt_sizeLimit (s : State) (v : Char8) : (outWriteAtCnt s v).sizeLimit = s.sizeLimit := rfl
@[simp] theorem outWriteAtCnt_card (s : State) (v : Char8) : (outWriteAtCnt s v).card = s.card := rfl
@[simp] theorem outWriteAtCnt_phase (s : State) (v : Char8) : (outWriteAtCnt s v).phase = s.phase := rfl
@[simp] theorem outWriteAtCnt_out (s : State) (v : Char8) : (outWriteAtCnt s v).out = Memory.write s.out s.cnt.toNat v := rfl
@[simp] theorem outWriteAtCnt_count (s : State) (v : Char8) : (outWriteAtCnt s v).count = s.count := rfl
@[simp] theorem outWriteAtCnt_ok (s : State) (v : Char8) : (outWriteAtCnt s v).ok = s.ok := rfl
@[simp] theorem outWriteAtCnt_dir (s : State) (v : Char8) : (outWriteAtCnt s v).dir = s.dir := rfl
@[simp] theorem outWriteAtCnt_errFwd (s : State) (v : Char8) : (outWriteAtCnt s v).errFwd = s.errFwd := rfl
@[simp] theorem outWriteAtCnt_errRev (s : State) (v : Char8) : (outWriteAtCnt s v).errRev = s.errRev := rfl
@[simp] theorem outWriteAtCnt_ovf (s : State) (v : Char8) : (outWriteAtCnt s v).ovf = s.ovf := rfl
@[simp] theorem outWriteAtCnt_haz (s : State) (v : Char8) : (outWriteAtCnt s v).haz = s.haz := rfl
@[simp] theorem outWriteAtCnt_acc (s : State) (v : Char8) : (outWriteAtCnt s v).acc = s.acc := rfl
@[simp] theorem outWriteAtCnt_bitcnt (s : State) (v : Char8) : (outWriteAtCnt s v).bitcnt = s.bitcnt := rfl
@[simp] theorem outWriteAtCnt_idx (s : State) (v : Char8) : (outWriteAtCnt s v).idx = s.idx := rfl
@[simp] theorem outWriteAtCnt_start (s : State) (v : Char8) : (outWriteAtCnt s v).start = s.start := rfl
@[simp] theorem outWriteAtCnt_startFound (s : State) (v : Char8) : (outWriteAtCnt s v).startFound = s.startFound := rfl
@[simp] theorem outWriteAtCnt_cnt (s : State) (v : Char8) : (outWriteAtCnt s v).cnt = s.cnt := rfl
@[simp] theorem outWriteAtCnt_cfg (s : State) (v : Char8) : (outWriteAtCnt s v).cfg = s.cfg := rfl
@[simp] theorem outWriteAtCnt_engine (s : State) (v : Char8) : (outWriteAtCnt s v).engine = s.engine := rfl
@[simp] theorem outWriteAtCnt_draws (s : State) (v : Char8) : (outWriteAtCnt s v).draws = s.draws := rfl
@[simp] theorem outWriteAtCnt_input (s : State) (v : Char8) : (outWriteAtCnt s v).input = s.input := rfl

@[simp] theorem recordFwdError_bits (e : ErrCode) (s : State) : (recordFwdError e s).bits = s.bits := rfl
@[simp] theorem recordFwdError_len (e : ErrCode) (s : State) : (recordFwdError e s).len = s.len := rfl
@[simp] theorem recordFwdError_armed (e : ErrCode) (s : State) : (recordFwdError e s).armed = s.armed := rfl
@[simp] theorem recordFwdError_fmt (e : ErrCode) (s : State) : (recordFwdError e s).fmt = s.fmt := rfl
@[simp] theorem recordFwdError_sizeLimit (e : ErrCode) (s : State) : (recordFwdError e s).sizeLimit = s.sizeLimit := rfl
@[simp] theorem recordFwdError_card (e : ErrCode) (s : State) : (recordFwdError e s).card = s.card := rfl
@[simp] theorem recordFwdError_phase (e : ErrCode) (s : State) : (recordFwdError e s).phase = s.phase := rfl
@[simp] theorem recordFwdError_out (e : ErrCode) (s : State) : (recordFwdError e s).out = s.out := rfl
@[simp] theorem recordFwdError_count (e : ErrCode) (s : State) : (recordFwdError e s).count = s.count := rfl
@[simp] theorem recordFwdError_ok (e : ErrCode) (s : State) : (recordFwdError e s).ok = s.ok := rfl
@[simp] theorem recordFwdError_dir (e : ErrCode) (s : State) : (recordFwdError e s).dir = s.dir := rfl
@[simp] theorem recordFwdError_errFwd (e : ErrCode) (s : State) : (recordFwdError e s).errFwd = e := rfl
@[simp] theorem recordFwdError_errRev (e : ErrCode) (s : State) : (recordFwdError e s).errRev = s.errRev := rfl
@[simp] theorem recordFwdError_ovf (e : ErrCode) (s : State) : (recordFwdError e s).ovf = s.ovf := rfl
@[simp] theorem recordFwdError_haz (e : ErrCode) (s : State) : (recordFwdError e s).haz = s.haz := rfl
@[simp] theorem recordFwdError_acc (e : ErrCode) (s : State) : (recordFwdError e s).acc = s.acc := rfl
@[simp] theorem recordFwdError_bitcnt (e : ErrCode) (s : State) : (recordFwdError e s).bitcnt = s.bitcnt := rfl
@[simp] theorem recordFwdError_idx (e : ErrCode) (s : State) : (recordFwdError e s).idx = s.idx := rfl
@[simp] theorem recordFwdError_start (e : ErrCode) (s : State) : (recordFwdError e s).start = s.start := rfl
@[simp] theorem recordFwdError_startFound (e : ErrCode) (s : State) : (recordFwdError e s).startFound = s.startFound := rfl
@[simp] theorem recordFwdError_cnt (e : ErrCode) (s : State) : (recordFwdError e s).cnt = s.cnt := rfl
@[simp] theorem recordFwdError_cfg (e : ErrCode) (s : State) : (recordFwdError e s).cfg = s.cfg := rfl
@[simp] theorem recordFwdError_engine (e : ErrCode) (s : State) : (recordFwdError e s).engine = s.engine := rfl
@[simp] theorem recordFwdError_draws (e : ErrCode) (s : State) : (recordFwdError e s).draws = s.draws := rfl
@[simp] theorem recordFwdError_input (e : ErrCode) (s : State) : (recordFwdError e s).input = s.input := rfl

@[simp] theorem enterReversed_bits (s : State) : (enterReversed s).bits = s.bits := rfl
@[simp] theorem enterReversed_len (s : State) : (enterReversed s).len = s.len := rfl
@[simp] theorem enterReversed_armed (s : State) : (enterReversed s).armed = s.armed := rfl
@[simp] theorem enterReversed_fmt (s : State) : (enterReversed s).fmt = s.fmt := rfl
@[simp] theorem enterReversed_sizeLimit (s : State) : (enterReversed s).sizeLimit = s.sizeLimit := rfl
@[simp] theorem enterReversed_card (s : State) : (enterReversed s).card = s.card := rfl
@[simp] theorem enterReversed_phase (s : State) : (enterReversed s).phase = .decodingRev := rfl
@[simp] theorem enterReversed_out (s : State) : (enterReversed s).out = s.out := rfl
@[simp] theorem enterReversed_count (s : State) : (enterReversed s).count = s.count := rfl
@[simp] theorem enterReversed_ok (s : State) : (enterReversed s).ok = s.ok := rfl
@[simp] theorem enterReversed_dir (s : State) : (enterReversed s).dir = s.dir := rfl
@[simp] theorem enterReversed_errFwd (s : State) : (enterReversed s).errFwd = s.errFwd := rfl
@[simp] theorem enterReversed_errRev (s : State) : (enterReversed s).errRev = s.errRev := rfl
@[simp] theorem enterReversed_ovf (s : State) : (enterReversed s).ovf = s.ovf := rfl
@[simp] theorem enterReversed_haz (s : State) : (enterReversed s).haz = s.haz := rfl
@[simp] theorem enterReversed_acc (s : State) : (enterReversed s).acc = s.acc := rfl
@[simp] theorem enterReversed_bitcnt (s : State) : (enterReversed s).bitcnt = s.bitcnt := rfl
@[simp] theorem enterReversed_idx (s : State) : (enterReversed s).idx = s.idx := rfl
@[simp] theorem enterReversed_start (s : State) : (enterReversed s).start = s.start := rfl
@[simp] theorem enterReversed_startFound (s : State) : (enterReversed s).startFound = s.startFound := rfl
@[simp] theorem enterReversed_cnt (s : State) : (enterReversed s).cnt = s.cnt := rfl
@[simp] theorem enterReversed_cfg (s : State) : (enterReversed s).cfg = s.cfg := rfl
@[simp] theorem enterReversed_engine (s : State) : (enterReversed s).engine = .atRest := rfl
@[simp] theorem enterReversed_draws (s : State) : (enterReversed s).draws = s.draws := rfl
@[simp] theorem enterReversed_input (s : State) : (enterReversed s).input = s.input := rfl

@[simp] theorem enterFailure_bits (e : ErrCode) (s : State) : (enterFailure e s).bits = s.bits := rfl
@[simp] theorem enterFailure_len (e : ErrCode) (s : State) : (enterFailure e s).len = s.len := rfl
@[simp] theorem enterFailure_armed (e : ErrCode) (s : State) : (enterFailure e s).armed = s.armed := rfl
@[simp] theorem enterFailure_fmt (e : ErrCode) (s : State) : (enterFailure e s).fmt = s.fmt := rfl
@[simp] theorem enterFailure_sizeLimit (e : ErrCode) (s : State) : (enterFailure e s).sizeLimit = s.sizeLimit := rfl
@[simp] theorem enterFailure_card (e : ErrCode) (s : State) : (enterFailure e s).card = s.card := rfl
@[simp] theorem enterFailure_phase (e : ErrCode) (s : State) : (enterFailure e s).phase = .failure := rfl
@[simp] theorem enterFailure_out (e : ErrCode) (s : State) : (enterFailure e s).out = s.out := rfl
@[simp] theorem enterFailure_count (e : ErrCode) (s : State) : (enterFailure e s).count = 0 := rfl
@[simp] theorem enterFailure_ok (e : ErrCode) (s : State) : (enterFailure e s).ok = false := rfl
@[simp] theorem enterFailure_dir (e : ErrCode) (s : State) : (enterFailure e s).dir = .unknown := rfl
@[simp] theorem enterFailure_errFwd (e : ErrCode) (s : State) : (enterFailure e s).errFwd = s.errFwd := rfl
@[simp] theorem enterFailure_errRev (e : ErrCode) (s : State) : (enterFailure e s).errRev = e := rfl
@[simp] theorem enterFailure_ovf (e : ErrCode) (s : State) : (enterFailure e s).ovf = s.ovf := rfl
@[simp] theorem enterFailure_haz (e : ErrCode) (s : State) : (enterFailure e s).haz = s.haz := rfl
@[simp] theorem enterFailure_acc (e : ErrCode) (s : State) : (enterFailure e s).acc = s.acc := rfl
@[simp] theorem enterFailure_bitcnt (e : ErrCode) (s : State) : (enterFailure e s).bitcnt = s.bitcnt := rfl
@[simp] theorem enterFailure_idx (e : ErrCode) (s : State) : (enterFailure e s).idx = s.idx := rfl
@[simp] theorem enterFailure_start (e : ErrCode) (s : State) : (enterFailure e s).start = s.start := rfl
@[simp] theorem enterFailure_startFound (e : ErrCode) (s : State) : (enterFailure e s).startFound = s.startFound := rfl
@[simp] theorem enterFailure_cnt (e : ErrCode) (s : State) : (enterFailure e s).cnt = s.cnt := rfl
@[simp] theorem enterFailure_cfg (e : ErrCode) (s : State) : (enterFailure e s).cfg = s.cfg := rfl
@[simp] theorem enterFailure_engine (e : ErrCode) (s : State) : (enterFailure e s).engine = .atRest := rfl
@[simp] theorem enterFailure_draws (e : ErrCode) (s : State) : (enterFailure e s).draws = s.draws := rfl
@[simp] theorem enterFailure_input (e : ErrCode) (s : State) : (enterFailure e s).input = s.input := rfl

@[simp] theorem enterSuccessFwd_bits (c : BitVec 8) (s : State) : (enterSuccessFwd c s).bits = s.bits := rfl
@[simp] theorem enterSuccessFwd_len (c : BitVec 8) (s : State) : (enterSuccessFwd c s).len = s.len := rfl
@[simp] theorem enterSuccessFwd_armed (c : BitVec 8) (s : State) : (enterSuccessFwd c s).armed = s.armed := rfl
@[simp] theorem enterSuccessFwd_fmt (c : BitVec 8) (s : State) : (enterSuccessFwd c s).fmt = s.fmt := rfl
@[simp] theorem enterSuccessFwd_sizeLimit (c : BitVec 8) (s : State) : (enterSuccessFwd c s).sizeLimit = s.sizeLimit := rfl
@[simp] theorem enterSuccessFwd_card (c : BitVec 8) (s : State) : (enterSuccessFwd c s).card = s.card := rfl
@[simp] theorem enterSuccessFwd_phase (c : BitVec 8) (s : State) : (enterSuccessFwd c s).phase = .successFwd := rfl
@[simp] theorem enterSuccessFwd_out (c : BitVec 8) (s : State) : (enterSuccessFwd c s).out = s.out := rfl
@[simp] theorem enterSuccessFwd_count (c : BitVec 8) (s : State) : (enterSuccessFwd c s).count = c := rfl
@[simp] theorem enterSuccessFwd_ok (c : BitVec 8) (s : State) : (enterSuccessFwd c s).ok = true := rfl
@[simp] theorem enterSuccessFwd_dir (c : BitVec 8) (s : State) : (enterSuccessFwd c s).dir = .forward := rfl
@[simp] theorem enterSuccessFwd_errFwd (c : BitVec 8) (s : State) : (enterSuccessFwd c s).errFwd = .noError := rfl
@[simp] theorem enterSuccessFwd_errRev (c : BitVec 8) (s : State) : (enterSuccessFwd c s).errRev = s.errRev := rfl
@[simp] theorem enterSuccessFwd_ovf (c : BitVec 8) (s : State) : (enterSuccessFwd c s).ovf = s.ovf := rfl
@[simp] theorem enterSuccessFwd_haz (c : BitVec 8) (s : State) : (enterSuccessFwd c s).haz = s.haz := rfl
@[simp] theorem enterSuccessFwd_acc (c : BitVec 8) (s : State) : (enterSuccessFwd c s).acc = s.acc := rfl
@[simp] theorem enterSuccessFwd_bitcnt (c : BitVec 8) (s : State) : (enterSuccessFwd c s).bitcnt = s.bitcnt := rfl
@[simp] theorem enterSuccessFwd_idx (c : BitVec 8) (s : State) : (enterSuccessFwd c s).idx = s.idx := rfl
@[simp] theorem enterSuccessFwd_start (c : BitVec 8) (s : State) : (enterSuccessFwd c s).start = s.start := rfl
@[simp] theorem enterSuccessFwd_startFound (c : BitVec 8) (s : State) : (enterSuccessFwd c s).startFound = s.startFound := rfl
@[simp] theorem enterSuccessFwd_cnt (c : BitVec 8) (s : State) : (enterSuccessFwd c s).cnt = s.cnt := rfl
@[simp] theorem enterSuccessFwd_cfg (c : BitVec 8) (s : State) : (enterSuccessFwd c s).cfg = s.cfg := rfl
@[simp] theorem enterSuccessFwd_engine (c : BitVec 8) (s : State) : (enterSuccessFwd c s).engine = .atRest := rfl
@[simp] theorem enterSuccessFwd_draws (c : BitVec 8) (s : State) : (enterSuccessFwd c s).draws = s.draws := rfl
@[simp] theorem enterSuccessFwd_input (c : BitVec 8) (s : State) : (enterSuccessFwd c s).input = s.input := rfl

@[simp] theorem enterSuccessRev_bits (c : BitVec 8) (s : State) : (enterSuccessRev c s).bits = s.bits := rfl
@[simp] theorem enterSuccessRev_len (c : BitVec 8) (s : State) : (enterSuccessRev c s).len = s.len := rfl
@[simp] theorem enterSuccessRev_armed (c : BitVec 8) (s : State) : (enterSuccessRev c s).armed = s.armed := rfl
@[simp] theorem enterSuccessRev_fmt (c : BitVec 8) (s : State) : (enterSuccessRev c s).fmt = s.fmt := rfl
@[simp] theorem enterSuccessRev_sizeLimit (c : BitVec 8) (s : State) : (enterSuccessRev c s).sizeLimit = s.sizeLimit := rfl
@[simp] theorem enterSuccessRev_card (c : BitVec 8) (s : State) : (enterSuccessRev c s).card = s.card := rfl
@[simp] theorem enterSuccessRev_phase (c : BitVec 8) (s : State) : (enterSuccessRev c s).phase = .successRev := rfl
@[simp] theorem enterSuccessRev_out (c : BitVec 8) (s : State) : (enterSuccessRev c s).out = s.out := rfl
@[simp] theorem enterSuccessRev_count (c : BitVec 8) (s : State) : (enterSuccessRev c s).count = c := rfl
@[simp] theorem enterSuccessRev_ok (c : BitVec 8) (s : State) : (enterSuccessRev c s).ok = true := rfl
@[simp] theorem enterSuccessRev_dir (c : BitVec 8) (s : State) : (enterSuccessRev c s).dir = .backward := rfl
@[simp] theorem enterSuccessRev_errFwd (c : BitVec 8) (s : State) : (enterSuccessRev c s).errFwd = s.errFwd := rfl
@[simp] theorem enterSuccessRev_errRev (c : BitVec 8) (s : State) : (enterSuccessRev c s).errRev = .noError := rfl
@[simp] theorem enterSuccessRev_ovf (c : BitVec 8) (s : State) : (enterSuccessRev c s).ovf = s.ovf := rfl
@[simp] theorem enterSuccessRev_haz (c : BitVec 8) (s : State) : (enterSuccessRev c s).haz = s.haz := rfl
@[simp] theorem enterSuccessRev_acc (c : BitVec 8) (s : State) : (enterSuccessRev c s).acc = s.acc := rfl
@[simp] theorem enterSuccessRev_bitcnt (c : BitVec 8) (s : State) : (enterSuccessRev c s).bitcnt = s.bitcnt := rfl
@[simp] theorem enterSuccessRev_idx (c : BitVec 8) (s : State) : (enterSuccessRev c s).idx = s.idx := rfl
@[simp] theorem enterSuccessRev_start (c : BitVec 8) (s : State) : (enterSuccessRev c s).start = s.start := rfl
@[simp] theorem enterSuccessRev_startFound (c : BitVec 8) (s : State) : (enterSuccessRev c s).startFound = s.startFound := rfl
@[simp] theorem enterSuccessRev_cnt (c : BitVec 8) (s : State) : (enterSuccessRev c s).cnt = s.cnt := rfl
@[simp] theorem enterSuccessRev_cfg (c : BitVec 8) (s : State) : (enterSuccessRev c s).cfg = s.cfg := rfl
@[simp] theorem enterSuccessRev_engine (c : BitVec 8) (s : State) : (enterSuccessRev c s).engine = .atRest := rfl
@[simp] theorem enterSuccessRev_draws (c : BitVec 8) (s : State) : (enterSuccessRev c s).draws = s.draws := rfl
@[simp] theorem enterSuccessRev_input (c : BitVec 8) (s : State) : (enterSuccessRev c s).input = s.input := rfl

@[simp] theorem foundHere_bits (F : Descriptor) (a : BitVec 8) (s : State) : (foundHere F a s).bits = s.bits := rfl
@[simp] theorem foundHere_len (F : Descriptor) (a : BitVec 8) (s : State) : (foundHere F a s).len = s.len := rfl
@[simp] theorem foundHere_armed (F : Descriptor) (a : BitVec 8) (s : State) : (foundHere F a s).armed = s.armed := rfl
@[simp] theorem foundHere_fmt (F : Descriptor) (a : BitVec 8) (s : State) : (foundHere F a s).fmt = s.fmt := rfl
@[simp] theorem foundHere_sizeLimit (F : Descriptor) (a : BitVec 8) (s : State) : (foundHere F a s).sizeLimit = s.sizeLimit := rfl
@[simp] theorem foundHere_card (F : Descriptor) (a : BitVec 8) (s : State) : (foundHere F a s).card = s.card := rfl
@[simp] theorem foundHere_phase (F : Descriptor) (a : BitVec 8) (s : State) : (foundHere F a s).phase = s.phase := rfl
@[simp] theorem foundHere_out (F : Descriptor) (a : BitVec 8) (s : State) : (foundHere F a s).out = s.out := rfl
@[simp] theorem foundHere_count (F : Descriptor) (a : BitVec 8) (s : State) : (foundHere F a s).count = s.count := rfl
@[simp] theorem foundHere_ok (F : Descriptor) (a : BitVec 8) (s : State) : (foundHere F a s).ok = s.ok := rfl
@[simp] theorem foundHere_dir (F : Descriptor) (a : BitVec 8) (s : State) : (foundHere F a s).dir = s.dir := rfl
@[simp] theorem foundHere_errFwd (F : Descriptor) (a : BitVec 8) (s : State) : (foundHere F a s).errFwd = s.errFwd := rfl
@[simp] theorem foundHere_errRev (F : Descriptor) (a : BitVec 8) (s : State) : (foundHere F a s).errRev = s.errRev := rfl
@[simp] theorem foundHere_ovf (F : Descriptor) (a : BitVec 8) (s : State) : (foundHere F a s).ovf = s.ovf := rfl
@[simp] theorem foundHere_haz (F : Descriptor) (a : BitVec 8) (s : State) : (foundHere F a s).haz = s.haz := rfl
@[simp] theorem foundHere_acc (F : Descriptor) (a : BitVec 8) (s : State) : (foundHere F a s).acc = a := rfl
@[simp] theorem foundHere_bitcnt (F : Descriptor) (a : BitVec 8) (s : State) : (foundHere F a s).bitcnt = s.bitcnt := rfl
@[simp] theorem foundHere_idx (F : Descriptor) (a : BitVec 8) (s : State) : (foundHere F a s).idx = s.idx := rfl
@[simp] theorem foundHere_start (F : Descriptor) (a : BitVec 8) (s : State) : (foundHere F a s).start = s.idx - BitVec.ofNat 16 (F.width - 1) := rfl
@[simp] theorem foundHere_startFound (F : Descriptor) (a : BitVec 8) (s : State) : (foundHere F a s).startFound = true := rfl
@[simp] theorem foundHere_cnt (F : Descriptor) (a : BitVec 8) (s : State) : (foundHere F a s).cnt = s.cnt := rfl
@[simp] theorem foundHere_cfg (F : Descriptor) (a : BitVec 8) (s : State) : (foundHere F a s).cfg = s.cfg := rfl
@[simp] theorem foundHere_engine (F : Descriptor) (a : BitVec 8) (s : State) : (foundHere F a s).engine = s.engine := rfl
@[simp] theorem foundHere_draws (F : Descriptor) (a : BitVec 8) (s : State) : (foundHere F a s).draws = s.draws := rfl
@[simp] theorem foundHere_input (F : Descriptor) (a : BitVec 8) (s : State) : (foundHere F a s).input = s.input := rfl

@[simp] theorem scanOn_bits (a : BitVec 8) (s : State) : (scanOn a s).bits = s.bits := rfl
@[simp] theorem scanOn_len (a : BitVec 8) (s : State) : (scanOn a s).len = s.len := rfl
@[simp] theorem scanOn_armed (a : BitVec 8) (s : State) : (scanOn a s).armed = s.armed := rfl
@[simp] theorem scanOn_fmt (a : BitVec 8) (s : State) : (scanOn a s).fmt = s.fmt := rfl
@[simp] theorem scanOn_sizeLimit (a : BitVec 8) (s : State) : (scanOn a s).sizeLimit = s.sizeLimit := rfl
@[simp] theorem scanOn_card (a : BitVec 8) (s : State) : (scanOn a s).card = s.card := rfl
@[simp] theorem scanOn_phase (a : BitVec 8) (s : State) : (scanOn a s).phase = s.phase := rfl
@[simp] theorem scanOn_out (a : BitVec 8) (s : State) : (scanOn a s).out = s.out := rfl
@[simp] theorem scanOn_count (a : BitVec 8) (s : State) : (scanOn a s).count = s.count := rfl
@[simp] theorem scanOn_ok (a : BitVec 8) (s : State) : (scanOn a s).ok = s.ok := rfl
@[simp] theorem scanOn_dir (a : BitVec 8) (s : State) : (scanOn a s).dir = s.dir := rfl
@[simp] theorem scanOn_errFwd (a : BitVec 8) (s : State) : (scanOn a s).errFwd = s.errFwd := rfl
@[simp] theorem scanOn_errRev (a : BitVec 8) (s : State) : (scanOn a s).errRev = s.errRev := rfl
@[simp] theorem scanOn_ovf (a : BitVec 8) (s : State) : (scanOn a s).ovf = s.ovf := rfl
@[simp] theorem scanOn_haz (a : BitVec 8) (s : State) : (scanOn a s).haz = s.haz := rfl
@[simp] theorem scanOn_acc (a : BitVec 8) (s : State) : (scanOn a s).acc = a := rfl
@[simp] theorem scanOn_bitcnt (a : BitVec 8) (s : State) : (scanOn a s).bitcnt = s.bitcnt := rfl
@[simp] theorem scanOn_idx (a : BitVec 8) (s : State) : (scanOn a s).idx = s.idx + 1 := rfl
@[simp] theorem scanOn_start (a : BitVec 8) (s : State) : (scanOn a s).start = s.start := rfl
@[simp] theorem scanOn_startFound (a : BitVec 8) (s : State) : (scanOn a s).startFound = s.startFound := rfl
@[simp] theorem scanOn_cnt (a : BitVec 8) (s : State) : (scanOn a s).cnt = s.cnt := rfl
@[simp] theorem scanOn_cfg (a : BitVec 8) (s : State) : (scanOn a s).cfg = s.cfg := rfl
@[simp] theorem scanOn_engine (a : BitVec 8) (s : State) : (scanOn a s).engine = s.engine := rfl
@[simp] theorem scanOn_draws (a : BitVec 8) (s : State) : (scanOn a s).draws = s.draws := rfl
@[simp] theorem scanOn_input (a : BitVec 8) (s : State) : (scanOn a s).input = s.input := rfl

@[simp] theorem notFound_bits (s : State) : (notFound s).bits = s.bits := rfl
@[simp] theorem notFound_len (s : State) : (notFound s).len = s.len := rfl
@[simp] theorem notFound_armed (s : State) : (notFound s).armed = s.armed := rfl
@[simp] theorem notFound_fmt (s : State) : (notFound s).fmt = s.fmt := rfl
@[simp] theorem notFound_sizeLimit (s : State) : (notFound s).sizeLimit = s.sizeLimit := rfl
@[simp] theorem notFound_card (s : State) : (notFound s).card = s.card := rfl
@[simp] theorem notFound_phase (s : State) : (notFound s).phase = s.phase := rfl
@[simp] theorem notFound_out (s : State) : (notFound s).out = s.out := rfl
@[simp] theorem notFound_count (s : State) : (notFound s).count = s.count := rfl
@[simp] theorem notFound_ok (s : State) : (notFound s).ok = s.ok := rfl
@[simp] theorem notFound_dir (s : State) : (notFound s).dir = s.dir := rfl
@[simp] theorem notFound_errFwd (s : State) : (notFound s).errFwd = s.errFwd := rfl
@[simp] theorem notFound_errRev (s : State) : (notFound s).errRev = s.errRev := rfl
@[simp] theorem notFound_ovf (s : State) : (notFound s).ovf = s.ovf := rfl
@[simp] theorem notFound_haz (s : State) : (notFound s).haz = s.haz := rfl
@[simp] theorem notFound_acc (s : State) : (notFound s).acc = s.acc := rfl
@[simp] theorem notFound_bitcnt (s : State) : (notFound s).bitcnt = s.bitcnt := rfl
@[simp] theorem notFound_idx (s : State) : (notFound s).idx = s.idx := rfl
@[simp] theorem notFound_start (s : State) : (notFound s).start = s.start := rfl
@[simp] theorem notFound_startFound (s : State) : (notFound s).startFound = false := rfl
@[simp] theorem notFound_cnt (s : State) : (notFound s).cnt = s.cnt := rfl
@[simp] theorem notFound_cfg (s : State) : (notFound s).cfg = s.cfg := rfl
@[simp] theorem notFound_engine (s : State) : (notFound s).engine = s.engine := rfl
@[simp] theorem notFound_draws (s : State) : (notFound s).draws = s.draws := rfl
@[simp] theorem notFound_input (s : State) : (notFound s).input = s.input := rfl

@[simp] theorem beginScan_bits (s : State) : (beginScan s).bits = s.bits := rfl
@[simp] theorem beginScan_len (s : State) : (beginScan s).len = s.len := rfl
@[simp] theorem beginScan_armed (s : State) : (beginScan s).armed = s.armed := rfl
@[simp] theorem beginScan_fmt (s : State) : (beginScan s).fmt = s.fmt := rfl
@[simp] theorem beginScan_sizeLimit (s : State) : (beginScan s).sizeLimit = s.sizeLimit := rfl
@[simp] theorem beginScan_card (s : State) : (beginScan s).card = s.card := rfl
@[simp] theorem beginScan_phase (s : State) : (beginScan s).phase = s.phase := rfl
@[simp] theorem beginScan_out (s : State) : (beginScan s).out = s.out := rfl
@[simp] theorem beginScan_count (s : State) : (beginScan s).count = s.count := rfl
@[simp] theorem beginScan_ok (s : State) : (beginScan s).ok = s.ok := rfl
@[simp] theorem beginScan_dir (s : State) : (beginScan s).dir = s.dir := rfl
@[simp] theorem beginScan_errFwd (s : State) : (beginScan s).errFwd = s.errFwd := rfl
@[simp] theorem beginScan_errRev (s : State) : (beginScan s).errRev = s.errRev := rfl
@[simp] theorem beginScan_ovf (s : State) : (beginScan s).ovf = s.ovf := rfl
@[simp] theorem beginScan_haz (s : State) : (beginScan s).haz = s.haz := rfl
@[simp] theorem beginScan_acc (s : State) : (beginScan s).acc = 0 := rfl
@[simp] theorem beginScan_bitcnt (s : State) : (beginScan s).bitcnt = s.bitcnt := rfl
@[simp] theorem beginScan_idx (s : State) : (beginScan s).idx = 0 := rfl
@[simp] theorem beginScan_start (s : State) : (beginScan s).start = s.start := rfl
@[simp] theorem beginScan_startFound (s : State) : (beginScan s).startFound = s.startFound := rfl
@[simp] theorem beginScan_cnt (s : State) : (beginScan s).cnt = s.cnt := rfl
@[simp] theorem beginScan_cfg (s : State) : (beginScan s).cfg = s.cfg := rfl
@[simp] theorem beginScan_engine (s : State) : (beginScan s).engine = s.engine := rfl
@[simp] theorem beginScan_draws (s : State) : (beginScan s).draws = s.draws := rfl
@[simp] theorem beginScan_input (s : State) : (beginScan s).input = s.input := rfl

@[simp] theorem countChar_bits (s : State) : (countChar s).bits = s.bits := rfl
@[simp] theorem countChar_len (s : State) : (countChar s).len = s.len := rfl
@[simp] theorem countChar_armed (s : State) : (countChar s).armed = s.armed := rfl
@[simp] theorem countChar_fmt (s : State) : (countChar s).fmt = s.fmt := rfl
@[simp] theorem countChar_sizeLimit (s : State) : (countChar s).sizeLimit = s.sizeLimit := rfl
@[simp] theorem countChar_card (s : State) : (countChar s).card = s.card := rfl
@[simp] theorem countChar_phase (s : State) : (countChar s).phase = s.phase := rfl
@[simp] theorem countChar_out (s : State) : (countChar s).out = s.out := rfl
@[simp] theorem countChar_count (s : State) : (countChar s).count = s.count := rfl
@[simp] theorem countChar_ok (s : State) : (countChar s).ok = s.ok := rfl
@[simp] theorem countChar_dir (s : State) : (countChar s).dir = s.dir := rfl
@[simp] theorem countChar_errFwd (s : State) : (countChar s).errFwd = s.errFwd := rfl
@[simp] theorem countChar_errRev (s : State) : (countChar s).errRev = s.errRev := rfl
@[simp] theorem countChar_ovf (s : State) : (countChar s).ovf = s.ovf := rfl
@[simp] theorem countChar_haz (s : State) : (countChar s).haz = s.haz := rfl
@[simp] theorem countChar_acc (s : State) : (countChar s).acc = s.acc := rfl
@[simp] theorem countChar_bitcnt (s : State) : (countChar s).bitcnt = s.bitcnt := rfl
@[simp] theorem countChar_idx (s : State) : (countChar s).idx = s.idx := rfl
@[simp] theorem countChar_start (s : State) : (countChar s).start = s.start := rfl
@[simp] theorem countChar_startFound (s : State) : (countChar s).startFound = s.startFound := rfl
@[simp] theorem countChar_cnt (s : State) : (countChar s).cnt = s.cnt + 1 := rfl
@[simp] theorem countChar_cfg (s : State) : (countChar s).cfg = s.cfg := rfl
@[simp] theorem countChar_engine (s : State) : (countChar s).engine = s.engine := rfl
@[simp] theorem countChar_draws (s : State) : (countChar s).draws = s.draws := rfl
@[simp] theorem countChar_input (s : State) : (countChar s).input = s.input := rfl

@[simp] theorem gatherOn_bits (a : BitVec 8) (s : State) : (gatherOn a s).bits = s.bits := rfl
@[simp] theorem gatherOn_len (a : BitVec 8) (s : State) : (gatherOn a s).len = s.len := rfl
@[simp] theorem gatherOn_armed (a : BitVec 8) (s : State) : (gatherOn a s).armed = s.armed := rfl
@[simp] theorem gatherOn_fmt (a : BitVec 8) (s : State) : (gatherOn a s).fmt = s.fmt := rfl
@[simp] theorem gatherOn_sizeLimit (a : BitVec 8) (s : State) : (gatherOn a s).sizeLimit = s.sizeLimit := rfl
@[simp] theorem gatherOn_card (a : BitVec 8) (s : State) : (gatherOn a s).card = s.card := rfl
@[simp] theorem gatherOn_phase (a : BitVec 8) (s : State) : (gatherOn a s).phase = s.phase := rfl
@[simp] theorem gatherOn_out (a : BitVec 8) (s : State) : (gatherOn a s).out = s.out := rfl
@[simp] theorem gatherOn_count (a : BitVec 8) (s : State) : (gatherOn a s).count = s.count := rfl
@[simp] theorem gatherOn_ok (a : BitVec 8) (s : State) : (gatherOn a s).ok = s.ok := rfl
@[simp] theorem gatherOn_dir (a : BitVec 8) (s : State) : (gatherOn a s).dir = s.dir := rfl
@[simp] theorem gatherOn_errFwd (a : BitVec 8) (s : State) : (gatherOn a s).errFwd = s.errFwd := rfl
@[simp] theorem gatherOn_errRev (a : BitVec 8) (s : State) : (gatherOn a s).errRev = s.errRev := rfl
@[simp] theorem gatherOn_ovf (a : BitVec 8) (s : State) : (gatherOn a s).ovf = s.ovf := rfl
@[simp] theorem gatherOn_haz (a : BitVec 8) (s : State) : (gatherOn a s).haz = s.haz := rfl
@[simp] theorem gatherOn_acc (a : BitVec 8) (s : State) : (gatherOn a s).acc = a := rfl
@[simp] theorem gatherOn_bitcnt (a : BitVec 8) (s : State) : (gatherOn a s).bitcnt = s.bitcnt + 1 := rfl
@[simp] theorem gatherOn_idx (a : BitVec 8) (s : State) : (gatherOn a s).idx = s.idx + 1 := rfl
@[simp] theorem gatherOn_start (a : BitVec 8) (s : State) : (gatherOn a s).start = s.start := rfl
@[simp] theorem gatherOn_startFound (a : BitVec 8) (s : State) : (gatherOn a s).startFound = s.startFound := rfl
@[simp] theorem gatherOn_cnt (a : BitVec 8) (s : State) : (gatherOn a s).cnt = s.cnt := rfl
@[simp] theorem gatherOn_cfg (a : BitVec 8) (s : State) : (gatherOn a s).cfg = s.cfg := rfl
@[simp] theorem gatherOn_engine (a : BitVec 8) (s : State) : (gatherOn a s).engine = s.engine := rfl
@[simp] theorem gatherOn_draws (a : BitVec 8) (s : State) : (gatherOn a s).draws = s.draws := rfl
@[simp] theorem gatherOn_input (a : BitVec 8) (s : State) : (gatherOn a s).input = s.input := rfl

@[simp] theorem symbolComplete_bits (a : BitVec 8) (s : State) : (symbolComplete a s).bits = s.bits := rfl
@[simp] theorem symbolComplete_len (a : BitVec 8) (s : State) : (symbolComplete a s).len = s.len := rfl
@[simp] theorem symbolComplete_armed (a : BitVec 8) (s : State) : (symbolComplete a s).armed = s.armed := rfl
@[simp] theorem symbolComplete_fmt (a : BitVec 8) (s : State) : (symbolComplete a s).fmt = s.fmt := rfl
@[simp] theorem symbolComplete_sizeLimit (a : BitVec 8) (s : State) : (symbolComplete a s).sizeLimit = s.sizeLimit := rfl
@[simp] theorem symbolComplete_card (a : BitVec 8) (s : State) : (symbolComplete a s).card = s.card := rfl
@[simp] theorem symbolComplete_phase (a : BitVec 8) (s : State) : (symbolComplete a s).phase = s.phase := rfl
@[simp] theorem symbolComplete_out (a : BitVec 8) (s : State) : (symbolComplete a s).out = s.out := rfl
@[simp] theorem symbolComplete_count (a : BitVec 8) (s : State) : (symbolComplete a s).count = s.count := rfl
@[simp] theorem symbolComplete_ok (a : BitVec 8) (s : State) : (symbolComplete a s).ok = s.ok := rfl
@[simp] theorem symbolComplete_dir (a : BitVec 8) (s : State) : (symbolComplete a s).dir = s.dir := rfl
@[simp] theorem symbolComplete_errFwd (a : BitVec 8) (s : State) : (symbolComplete a s).errFwd = s.errFwd := rfl
@[simp] theorem symbolComplete_errRev (a : BitVec 8) (s : State) : (symbolComplete a s).errRev = s.errRev := rfl
@[simp] theorem symbolComplete_ovf (a : BitVec 8) (s : State) : (symbolComplete a s).ovf = s.ovf := rfl
@[simp] theorem symbolComplete_haz (a : BitVec 8) (s : State) : (symbolComplete a s).haz = s.haz := rfl
@[simp] theorem symbolComplete_acc (a : BitVec 8) (s : State) : (symbolComplete a s).acc = a := rfl
@[simp] theorem symbolComplete_bitcnt (a : BitVec 8) (s : State) : (symbolComplete a s).bitcnt = 0 := rfl
@[simp] theorem symbolComplete_idx (a : BitVec 8) (s : State) : (symbolComplete a s).idx = s.idx + 1 := rfl
@[simp] theorem symbolComplete_start (a : BitVec 8) (s : State) : (symbolComplete a s).start = s.start := rfl
@[simp] theorem symbolComplete_startFound (a : BitVec 8) (s : State) : (symbolComplete a s).startFound = s.startFound := rfl
@[simp] theorem symbolComplete_cnt (a : BitVec 8) (s : State) : (symbolComplete a s).cnt = s.cnt := rfl
@[simp] theorem symbolComplete_cfg (a : BitVec 8) (s : State) : (symbolComplete a s).cfg = s.cfg := rfl
@[simp] theorem symbolComplete_engine (a : BitVec 8) (s : State) : (symbolComplete a s).engine = s.engine := rfl
@[simp] theorem symbolComplete_draws (a : BitVec 8) (s : State) : (symbolComplete a s).draws = s.draws := rfl
@[simp] theorem symbolComplete_input (a : BitVec 8) (s : State) : (symbolComplete a s).input = s.input := rfl

@[simp] theorem terminate_bits (s : State) : (terminate s).bits = s.bits := rfl
@[simp] theorem terminate_len (s : State) : (terminate s).len = s.len := rfl
@[simp] theorem terminate_armed (s : State) : (terminate s).armed = s.armed := rfl
@[simp] theorem terminate_fmt (s : State) : (terminate s).fmt = s.fmt := rfl
@[simp] theorem terminate_sizeLimit (s : State) : (terminate s).sizeLimit = s.sizeLimit := rfl
@[simp] theorem terminate_card (s : State) : (terminate s).card = s.card := rfl
@[simp] theorem terminate_phase (s : State) : (terminate s).phase = s.phase := rfl
@[simp] theorem terminate_out (s : State) : (terminate s).out = Memory.write s.out s.cnt.toNat 0 := rfl
@[simp] theorem terminate_count (s : State) : (terminate s).count = s.count := rfl
@[simp] theorem terminate_ok (s : State) : (terminate s).ok = s.ok := rfl
@[simp] theorem terminate_dir (s : State) : (terminate s).dir = s.dir := rfl
@[simp] theorem terminate_errFwd (s : State) : (terminate s).errFwd = s.errFwd := rfl
@[simp] theorem terminate_errRev (s : State) : (terminate s).errRev = s.errRev := rfl
@[simp] theorem terminate_ovf (s : State) : (terminate s).ovf = s.ovf := rfl
@[simp] theorem terminate_haz (s : State) : (terminate s).haz = s.haz := rfl
@[simp] theorem terminate_acc (s : State) : (terminate s).acc = s.acc := rfl
@[simp] theorem terminate_bitcnt (s : State) : (terminate s).bitcnt = s.bitcnt := rfl
@[simp] theorem terminate_idx (s : State) : (terminate s).idx = s.idx := rfl
@[simp] theorem terminate_start (s : State) : (terminate s).start = s.start := rfl
@[simp] theorem terminate_startFound (s : State) : (terminate s).startFound = s.startFound := rfl
@[simp] theorem terminate_cnt (s : State) : (terminate s).cnt = s.cnt := rfl
@[simp] theorem terminate_cfg (s : State) : (terminate s).cfg = s.cfg := rfl
@[simp] theorem terminate_engine (s : State) : (terminate s).engine = s.engine := rfl
@[simp] theorem terminate_draws (s : State) : (terminate s).draws = s.draws := rfl
@[simp] theorem terminate_input (s : State) : (terminate s).input = s.input := rfl

@[simp] theorem beginDemod_bits (s : State) : (beginDemod s).bits = s.bits := rfl
@[simp] theorem beginDemod_len (s : State) : (beginDemod s).len = s.len := rfl
@[simp] theorem beginDemod_armed (s : State) : (beginDemod s).armed = s.armed := rfl
@[simp] theorem beginDemod_fmt (s : State) : (beginDemod s).fmt = s.fmt := rfl
@[simp] theorem beginDemod_sizeLimit (s : State) : (beginDemod s).sizeLimit = s.sizeLimit := rfl
@[simp] theorem beginDemod_card (s : State) : (beginDemod s).card = s.card := rfl
@[simp] theorem beginDemod_phase (s : State) : (beginDemod s).phase = s.phase := rfl
@[simp] theorem beginDemod_out (s : State) : (beginDemod s).out = s.out := rfl
@[simp] theorem beginDemod_count (s : State) : (beginDemod s).count = s.count := rfl
@[simp] theorem beginDemod_ok (s : State) : (beginDemod s).ok = s.ok := rfl
@[simp] theorem beginDemod_dir (s : State) : (beginDemod s).dir = s.dir := rfl
@[simp] theorem beginDemod_errFwd (s : State) : (beginDemod s).errFwd = s.errFwd := rfl
@[simp] theorem beginDemod_errRev (s : State) : (beginDemod s).errRev = s.errRev := rfl
@[simp] theorem beginDemod_ovf (s : State) : (beginDemod s).ovf = s.ovf := rfl
@[simp] theorem beginDemod_haz (s : State) : (beginDemod s).haz = s.haz := rfl
@[simp] theorem beginDemod_acc (s : State) : (beginDemod s).acc = 0 := rfl
@[simp] theorem beginDemod_bitcnt (s : State) : (beginDemod s).bitcnt = 0 := rfl
@[simp] theorem beginDemod_idx (s : State) : (beginDemod s).idx = s.start := rfl
@[simp] theorem beginDemod_start (s : State) : (beginDemod s).start = s.start := rfl
@[simp] theorem beginDemod_startFound (s : State) : (beginDemod s).startFound = s.startFound := rfl
@[simp] theorem beginDemod_cnt (s : State) : (beginDemod s).cnt = 0 := rfl
@[simp] theorem beginDemod_cfg (s : State) : (beginDemod s).cfg = s.cfg := rfl
@[simp] theorem beginDemod_engine (s : State) : (beginDemod s).engine = s.engine := rfl
@[simp] theorem beginDemod_draws (s : State) : (beginDemod s).draws = s.draws := rfl
@[simp] theorem beginDemod_input (s : State) : (beginDemod s).input = s.input := rfl

@[simp] theorem enterDemod_bits (s : State) : (enterDemod s).bits = s.bits := rfl
@[simp] theorem enterDemod_len (s : State) : (enterDemod s).len = s.len := rfl
@[simp] theorem enterDemod_armed (s : State) : (enterDemod s).armed = s.armed := rfl
@[simp] theorem enterDemod_fmt (s : State) : (enterDemod s).fmt = s.fmt := rfl
@[simp] theorem enterDemod_sizeLimit (s : State) : (enterDemod s).sizeLimit = s.sizeLimit := rfl
@[simp] theorem enterDemod_card (s : State) : (enterDemod s).card = s.card := rfl
@[simp] theorem enterDemod_phase (s : State) : (enterDemod s).phase = s.phase := rfl
@[simp] theorem enterDemod_out (s : State) : (enterDemod s).out = s.out := rfl
@[simp] theorem enterDemod_count (s : State) : (enterDemod s).count = s.count := rfl
@[simp] theorem enterDemod_ok (s : State) : (enterDemod s).ok = s.ok := rfl
@[simp] theorem enterDemod_dir (s : State) : (enterDemod s).dir = s.dir := rfl
@[simp] theorem enterDemod_errFwd (s : State) : (enterDemod s).errFwd = s.errFwd := rfl
@[simp] theorem enterDemod_errRev (s : State) : (enterDemod s).errRev = s.errRev := rfl
@[simp] theorem enterDemod_ovf (s : State) : (enterDemod s).ovf = s.ovf := rfl
@[simp] theorem enterDemod_haz (s : State) : (enterDemod s).haz = s.haz := rfl
@[simp] theorem enterDemod_acc (s : State) : (enterDemod s).acc = 0 := rfl
@[simp] theorem enterDemod_bitcnt (s : State) : (enterDemod s).bitcnt = 0 := rfl
@[simp] theorem enterDemod_idx (s : State) : (enterDemod s).idx = s.start := rfl
@[simp] theorem enterDemod_start (s : State) : (enterDemod s).start = s.start := rfl
@[simp] theorem enterDemod_startFound (s : State) : (enterDemod s).startFound = s.startFound := rfl
@[simp] theorem enterDemod_cnt (s : State) : (enterDemod s).cnt = 0 := rfl
@[simp] theorem enterDemod_cfg (s : State) : (enterDemod s).cfg = s.cfg := rfl
@[simp] theorem enterDemod_engine (s : State) : (enterDemod s).engine = .demodulating := rfl
@[simp] theorem enterDemod_draws (s : State) : (enterDemod s).draws = s.draws := rfl
@[simp] theorem enterDemod_input (s : State) : (enterDemod s).input = s.input := rfl

@[simp] theorem dropWord_bits (s : State) : (dropWord s).bits = s.bits := rfl
@[simp] theorem dropWord_len (s : State) : (dropWord s).len = s.len := rfl
@[simp] theorem dropWord_armed (s : State) : (dropWord s).armed = s.armed := rfl
@[simp] theorem dropWord_fmt (s : State) : (dropWord s).fmt = s.fmt := rfl
@[simp] theorem dropWord_sizeLimit (s : State) : (dropWord s).sizeLimit = s.sizeLimit := rfl
@[simp] theorem dropWord_card (s : State) : (dropWord s).card = s.card := rfl
@[simp] theorem dropWord_phase (s : State) : (dropWord s).phase = s.phase := rfl
@[simp] theorem dropWord_out (s : State) : (dropWord s).out = s.out := rfl
@[simp] theorem dropWord_count (s : State) : (dropWord s).count = s.count := rfl
@[simp] theorem dropWord_ok (s : State) : (dropWord s).ok = s.ok := rfl
@[simp] theorem dropWord_dir (s : State) : (dropWord s).dir = s.dir := rfl
@[simp] theorem dropWord_errFwd (s : State) : (dropWord s).errFwd = s.errFwd := rfl
@[simp] theorem dropWord_errRev (s : State) : (dropWord s).errRev = s.errRev := rfl
@[simp] theorem dropWord_ovf (s : State) : (dropWord s).ovf = s.ovf := rfl
@[simp] theorem dropWord_haz (s : State) : (dropWord s).haz = s.haz := rfl
@[simp] theorem dropWord_acc (s : State) : (dropWord s).acc = s.acc := rfl
@[simp] theorem dropWord_bitcnt (s : State) : (dropWord s).bitcnt = s.bitcnt := rfl
@[simp] theorem dropWord_idx (s : State) : (dropWord s).idx = s.idx := rfl
@[simp] theorem dropWord_start (s : State) : (dropWord s).start = s.start := rfl
@[simp] theorem dropWord_startFound (s : State) : (dropWord s).startFound = s.startFound := rfl
@[simp] theorem dropWord_cnt (s : State) : (dropWord s).cnt = s.cnt := rfl
@[simp] theorem dropWord_cfg (s : State) : (dropWord s).cfg = s.cfg := rfl
@[simp] theorem dropWord_engine (s : State) : (dropWord s).engine = s.engine := rfl
@[simp] theorem dropWord_draws (s : State) : (dropWord s).draws = s.draws := rfl
@[simp] theorem dropWord_input (s : State) : (dropWord s).input = s.input.tail := rfl

@[simp] theorem placeEvent_bits (w : EventWord) (s : State) : (placeEvent w s).bits = s.bits := rfl
@[simp] theorem placeEvent_len (w : EventWord) (s : State) : (placeEvent w s).len = s.len := rfl
@[simp] theorem placeEvent_armed (w : EventWord) (s : State) : (placeEvent w s).armed = s.armed := rfl
@[simp] theorem placeEvent_fmt (w : EventWord) (s : State) : (placeEvent w s).fmt = s.fmt := rfl
@[simp] theorem placeEvent_sizeLimit (w : EventWord) (s : State) : (placeEvent w s).sizeLimit = s.sizeLimit := rfl
@[simp] theorem placeEvent_card (w : EventWord) (s : State) : (placeEvent w s).card = s.card := rfl
@[simp] theorem placeEvent_phase (w : EventWord) (s : State) : (placeEvent w s).phase = s.phase := rfl
@[simp] theorem placeEvent_out (w : EventWord) (s : State) : (placeEvent w s).out = s.out := rfl
@[simp] theorem placeEvent_count (w : EventWord) (s : State) : (placeEvent w s).count = s.count := rfl
@[simp] theorem placeEvent_ok (w : EventWord) (s : State) : (placeEvent w s).ok = s.ok := rfl
@[simp] theorem placeEvent_dir (w : EventWord) (s : State) : (placeEvent w s).dir = s.dir := rfl
@[simp] theorem placeEvent_errFwd (w : EventWord) (s : State) : (placeEvent w s).errFwd = s.errFwd := rfl
@[simp] theorem placeEvent_errRev (w : EventWord) (s : State) : (placeEvent w s).errRev = s.errRev := rfl
@[simp] theorem placeEvent_ovf (w : EventWord) (s : State) : (placeEvent w s).ovf = s.ovf := rfl
@[simp] theorem placeEvent_haz (w : EventWord) (s : State) : (placeEvent w s).haz = s.haz := rfl
@[simp] theorem placeEvent_acc (w : EventWord) (s : State) : (placeEvent w s).acc = s.acc := rfl
@[simp] theorem placeEvent_bitcnt (w : EventWord) (s : State) : (placeEvent w s).bitcnt = s.bitcnt := rfl
@[simp] theorem placeEvent_idx (w : EventWord) (s : State) : (placeEvent w s).idx = s.idx := rfl
@[simp] theorem placeEvent_start (w : EventWord) (s : State) : (placeEvent w s).start = s.start := rfl
@[simp] theorem placeEvent_startFound (w : EventWord) (s : State) : (placeEvent w s).startFound = s.startFound := rfl
@[simp] theorem placeEvent_cnt (w : EventWord) (s : State) : (placeEvent w s).cnt = s.cnt := rfl
@[simp] theorem placeEvent_cfg (w : EventWord) (s : State) : (placeEvent w s).cfg = s.cfg := rfl
@[simp] theorem placeEvent_engine (w : EventWord) (s : State) : (placeEvent w s).engine = .atRest := rfl
@[simp] theorem placeEvent_draws (w : EventWord) (s : State) : (placeEvent w s).draws = s.draws := rfl
@[simp] theorem placeEvent_input (w : EventWord) (s : State) : (placeEvent w s).input = w :: s.input := rfl

end Sys2Proof.Machine
end

