-- ==== Sys2Proof/Laws/Ops.lean ====
section
/-! SUPPORT. One lemma per shared operation that says once what it can do. -/

namespace Sys2Proof.Machine

/-! ### The result type -/

theorem except_bind_ok {α β : Type} {x : Except Fault α} {k : α → Except Fault β} {b : β}
    (h : (x >>= k) = .ok b) : ∃ a, x = .ok a ∧ k a = .ok b := by
  cases x with
  | error f => cases h
  | ok a => exact ⟨a, rfl, h⟩

@[simp] theorem except_ok_bind {α β : Type} (a : α) (k : α → Except Fault β) :
    ((Except.ok a : Except Fault α) >>= k) = k a := rfl

@[simp] theorem except_error_bind {α β : Type} (f : Fault) (k : α → Except Fault β) :
    ((Except.error f : Except Fault α) >>= k) = .error f := rfl

@[simp] theorem ofExcept_ok (s : State) : ofExcept (.ok s) = .next s := rfl

@[simp] theorem ofExcept_error (f : Fault) : ofExcept (.error f) = .fault f := rfl

/-- A next state comes from an operation that met no bad access. -/
theorem ofExcept_eq_next {x : Except Fault State} {t : State} (h : ofExcept x = .next t) :
    x = .ok t := by
  cases x with
  | error f => cases h
  | ok s => exact congrArg _ (by simpa using h)

/-- An operation answers no refusal. -/
theorem ofExcept_ne_refused (x : Except Fault State) (r : Refusal) : ofExcept x ≠ .refused r := by
  cases x <;> simp

/-! ### The classes of `STATE` -/

theorem Phase.quiet_iff (p : Phase) :
    p.quiet = true ↔ p = .idle ∨ p = .successFwd ∨ p = .successRev ∨ p = .failure := by
  cases p <;> decide

theorem Phase.busy_iff (p : Phase) :
    p.busy = true ↔ p = .captureComplete ∨ p = .decodingFwd ∨ p = .decodingRev := by
  cases p <;> decide

theorem Phase.decoding_iff (p : Phase) :
    p.decoding = true ↔ p = .decodingFwd ∨ p = .decodingRev := by
  cases p <;> decide

theorem demodulating_iff (s : State) :
    demodulating s = true ↔ s.engine = .demodulating ∧ s.phase.decoding = true := by
  simp [demodulating]

/-! ### Accesses -/

/-- `BitRead` answers exactly in the valid prefix, at a cell that holds a bit. -/
theorem bitRead_eq_ok {s : State} {i : Nat} {b : Bit} :
    bitRead s i = .ok b ↔ i < s.len.toNat ∧ Memory.read? s.bits i = some b := by
  unfold bitRead
  by_cases h : i < s.len.toNat
  · simp only [h, if_true, true_and]
    cases hm : Memory.read? s.bits i <;> simp
  · simp [h]

/-- In a readable buffer every read inside the prefix answers the cell. -/
theorem Readable.bitRead {s : State} (h : Readable s) {i : Nat} (hi : i < s.len.toNat) :
    ∃ b, bitRead s i = .ok b ∧ Memory.read? s.bits i = some b := by
  obtain ⟨b, hb⟩ := Option.isSome_iff_exists.1 (h.cells i hi)
  exact ⟨b, bitRead_eq_ok.2 ⟨hi, hb⟩, hb⟩

/-- `BitWrite` stores one cell and nothing else. -/
theorem bitWrite_eq_ok {s t : State} {i : Nat} {v : Bit} (h : bitWrite s i v = .ok t) :
    i < s.cfg.bufCap ∧ t = { s with bits := Memory.write s.bits i v } := by
  unfold bitWrite at h
  by_cases hi : i < s.cfg.bufCap
  · simp only [hi, if_true, Except.ok.injEq] at h
    exact ⟨hi, h.symm⟩
  · simp [hi] at h

/-- `OutRead` answers exactly below `CNT`, at a cell that holds a character. -/
theorem outRead_eq_ok {s : State} {j : Nat} {c : Char8} :
    outRead s j = .ok c ↔ j < s.cnt.toNat ∧ Memory.read? s.out j = some c := by
  unfold outRead
  by_cases h : j < s.cnt.toNat
  · simp only [h, if_true, true_and]
    cases hm : Memory.read? s.out j <;> simp
  · simp [h]

/-! ### The buffer operations -/

/-- `APPEND` stores the bit at `LEN` and counts it, or, in a full buffer, sets `OVF` alone. -/
theorem append_eq (b : Bit) (s : State) :
    append b s = .ok (if s.len.toNat < s.cfg.bufCap
      then { s with bits := Memory.write s.bits s.len.toNat b, len := s.len + 1 }
      else { s with ovf := true }) := by
  unfold append bitWrite
  by_cases h : s.len.toNat < s.cfg.bufCap
  · simp [h, growBuffer]
  · simp [h, markOverflow]

/-- One swap of `REVERSE` reads both cells and writes each with the other's bit. -/
theorem swapPair_eq_ok {s t : State} {i : Nat} (h : swapPair s i = .ok t) :
    ∃ a b, bitRead s i = .ok a ∧ bitRead s (s.len.toNat - 1 - i) = .ok b ∧
      i < s.cfg.bufCap ∧ s.len.toNat - 1 - i < s.cfg.bufCap ∧
      t = { s with bits := Memory.write (Memory.write s.bits i b) (s.len.toNat - 1 - i) a } := by
  unfold swapPair at h
  obtain ⟨a, ha, h⟩ := except_bind_ok h
  obtain ⟨b, hb, h⟩ := except_bind_ok h
  obtain ⟨s', hs', h⟩ := except_bind_ok h
  obtain ⟨hi, rfl⟩ := bitWrite_eq_ok hs'
  obtain ⟨hj, rfl⟩ := bitWrite_eq_ok h
  exact ⟨a, b, ha, hb, hi, hj, rfl⟩

/-- The turns of `REVERSE` change `BITS` alone. -/
theorem reversePairs_frame {n : Nat} {s t : State} (h : reversePairs n s = .ok t) :
    t = { s with bits := t.bits } := by
  induction n generalizing t with
  | zero => cases h; rfl
  | succ n ih =>
    obtain ⟨s', hs', h⟩ := except_bind_ok h
    obtain ⟨a, b, -, -, -, -, rfl⟩ := swapPair_eq_ok h
    rw [ih hs']

/-- `REVERSE` changes `BITS` alone. -/
theorem reverse_frame {s t : State} (h : reverse s = .ok t) : t = { s with bits := t.bits } :=
  reversePairs_frame h

/-! ### The end of an attempt -/

/-- Taking a decode error: the arm of R186 or of R187; elsewhere only the engine comes to rest. -/
theorem takeError_cases {e : ErrCode} {s t : State} (h : takeError e s = .ok t) :
    (s.phase = .decodingFwd ∧ ∃ u, reverse (recordFwdError e s) = .ok u ∧ t = enterReversed u) ∨
    (s.phase = .decodingRev ∧ t = enterFailure e s) ∨
    (s.phase.decoding = false ∧ t = { s with engine := .atRest }) := by
  unfold takeError at h
  split at h
  · rename_i hp
    obtain ⟨u, hu, h⟩ := except_bind_ok h
    exact .inl ⟨hp, u, hu, by simpa using h.symm⟩
  · rename_i hp
    exact .inr (.inl ⟨hp, by simpa using h.symm⟩)
  all_goals
    rename_i hp
    exact .inr (.inr ⟨by rw [hp]; rfl, by simpa using h.symm⟩)

/-- Accepting a record: the arm of R186 or of R187; elsewhere only the engine comes to rest. -/
theorem acceptRecord_cases (c : BitVec 8) (s : State) :
    (s.phase = .decodingFwd ∧ acceptRecord c s = enterSuccessFwd c s) ∨
    (s.phase = .decodingRev ∧ acceptRecord c s = enterSuccessRev c s) ∨
    (s.phase.decoding = false ∧ acceptRecord c s = { s with engine := .atRest }) := by
  unfold acceptRecord
  split <;> rename_i hp <;> simp [hp, Phase.decoding]

end Sys2Proof.Machine
end

