-- ==== Sys2Proof/Laws/Stages.lean ====
section
/-! SUPPORT. One lemma per stage of an orientation attempt: what one turn of each loop can do, and what the
stage leaves alone. -/

namespace Sys2Proof.Machine

/-- The registers and the memory an attempt may write: `OUT` and the working registers (R181). -/
def SameButWork (s t : State) : Prop :=
  t = { s with out := t.out, acc := t.acc, bitcnt := t.bitcnt, idx := t.idx, start := t.start,
               startFound := t.startFound, cnt := t.cnt }

theorem SameButWork.refl (s : State) : SameButWork s s := rfl

theorem SameButWork.trans {s t u : State} (h : SameButWork s t) (h' : SameButWork t u) :
    SameButWork s u := by
  unfold SameButWork at *
  rw [h', h]

/-! ### `FIND` -/

/-- One turn of `FIND`: the bit at `IDX` enters the accumulator, and the loop leaves or goes on. -/
theorem findLoop_succ {F : Descriptor} {n : Nat} {s t : State} (h : findLoop F (n + 1) s = .ok t) :
    ∃ b, bitRead s s.idx.toNat = .ok b ∧
      (accUpdate F s.acc b = F.pattern ∧ t = foundHere F (accUpdate F s.acc b) s ∨
       accUpdate F s.acc b ≠ F.pattern ∧ findLoop F n (scanOn (accUpdate F s.acc b) s) = .ok t) := by
  unfold findLoop at h
  obtain ⟨b, hb, h⟩ := except_bind_ok h
  refine ⟨b, hb, ?_⟩
  by_cases hp : accUpdate F s.acc b = F.pattern
  · simp only [hp, if_true, Except.ok.injEq] at h
    exact .inl ⟨hp, by rw [hp]; exact h.symm⟩
  · simp only [hp, if_false] at h
    exact .inr ⟨hp, h⟩

/-- `FIND` writes working registers only. -/
theorem find_frame {F : Descriptor} {s t : State} (h : find F s = .ok t) : SameButWork s t := by
  have loop : ∀ n (s : State), findLoop F n s = .ok t → SameButWork s t := by
    intro n
    induction n with
    | zero => intro s h; cases h; rfl
    | succ n ih =>
      intro s h
      obtain ⟨b, -, ⟨-, rfl⟩ | ⟨-, h⟩⟩ := findLoop_succ h
      · rfl
      · exact (show SameButWork s (scanOn _ s) from rfl).trans (ih _ h)
  exact (show SameButWork s (beginScan s) from rfl).trans (loop _ _ h)

/-! ### `DEMOD` -/

/-- What one bit does: it enters the accumulator, and completes a symbol or does not. -/
theorem shiftIn_cases {F : Descriptor} {s t : State} {c : Bool} (h : shiftIn F s = .ok (t, c)) :
    ∃ b, bitRead s s.idx.toNat = .ok b ∧
      (s.bitcnt.toNat + 1 = F.width ∧ c = true ∧ t = symbolComplete (accUpdate F s.acc b) s ∨
       s.bitcnt.toNat + 1 ≠ F.width ∧ c = false ∧ t = gatherOn (accUpdate F s.acc b) s) := by
  unfold shiftIn at h
  obtain ⟨b, hb, h⟩ := except_bind_ok h
  refine ⟨b, hb, ?_⟩
  by_cases hw : s.bitcnt.toNat + 1 = F.width
  · simp only [hw, if_true, Except.ok.injEq, Prod.mk.injEq] at h
    exact .inl ⟨hw, h.2.symm, h.1.symm⟩
  · simp only [hw, if_false, Except.ok.injEq, Prod.mk.injEq] at h
    exact .inr ⟨hw, h.2.symm, h.1.symm⟩

/-- Everything a completed symbol can do in the demodulator (R152 to R157). -/
theorem demodSymbol_cases (F : Descriptor) (sym : BitVec 8) (s : State) :
    (sym = 0 ∧ demodSymbol F sym s = (s, .stop)) ∨
    (sym ≠ 0 ∧ parityOk sym = false ∧
      demodSymbol F sym s = (s, .raised .symbolParityError s.cnt.toNat)) ∨
    (sym ≠ 0 ∧ parityOk sym = true ∧ F.map sym = none ∧
      demodSymbol F sym s = (s, .raised .invalidSymbol s.cnt.toNat)) ∨
    (sym ≠ 0 ∧ parityOk sym = true ∧ (∃ ch, F.map sym = some ch) ∧ ¬ s.cnt < s.sizeLimit ∧
      demodSymbol F sym s = (s, .raised .outputBufferTooSmall s.cnt.toNat)) ∨
    (sym ≠ 0 ∧ parityOk sym = true ∧ s.cnt < s.sizeLimit ∧ ∃ ch, F.map sym = some ch ∧
      demodSymbol F sym s = (countChar (outWriteAtCnt s ch), .go)) := by
  unfold demodSymbol
  by_cases h0 : sym = 0
  · simp [h0]
  · rw [if_neg h0]
    cases hp : parityOk sym
    · exact .inr (.inl ⟨h0, rfl, rfl⟩)
    · cases hm : F.map sym with
      | none => exact .inr (.inr (.inl ⟨h0, rfl, rfl, rfl⟩))
      | some ch =>
        by_cases hc : s.cnt < s.sizeLimit
        · exact .inr (.inr (.inr (.inr ⟨h0, rfl, hc, ch, rfl, by simp [hc]⟩)))
        · exact .inr (.inr (.inr (.inl ⟨h0, rfl, ⟨ch, rfl⟩, hc, by simp [hc]⟩)))

/-- A completed symbol changes `OUT` and `CNT` at most. -/
theorem demodSymbol_frame (F : Descriptor) (sym : BitVec 8) (s : State) :
    SameButWork s (demodSymbol F sym s).1 := by
  rcases demodSymbol_cases F sym s with
    ⟨-, h⟩ | ⟨-, -, h⟩ | ⟨-, -, -, h⟩ | ⟨-, -, -, -, h⟩ | ⟨-, -, -, ch, -, h⟩ <;> rw [h] <;> rfl

theorem shiftIn_frame {F : Descriptor} {s t : State} {c : Bool} (h : shiftIn F s = .ok (t, c)) :
    SameButWork s t := by
  obtain ⟨b, -, ⟨-, -, rfl⟩ | ⟨-, -, rfl⟩⟩ := shiftIn_cases h <;> rfl

/-- One turn of the demodulator's loop. -/
theorem demodLoop_succ {F : Descriptor} {n : Nat} {s t : State} {r : AttemptResult}
    (h : demodLoop F (n + 1) s = .ok (t, r)) :
    (∃ u, shiftIn F s = .ok (u, false) ∧ demodLoop F n u = .ok (t, r)) ∨
    ∃ u v turn, shiftIn F s = .ok (u, true) ∧ demodSymbol F u.acc u = (v, turn) ∧
      (turn = .go ∧ demodLoop F n v = .ok (t, r) ∨
       turn = .stop ∧ t = terminate v ∧ r = .ok v.cnt ∨
       ∃ e info, turn = .raised e info ∧ t = v ∧ r = .err e info) := by
  unfold demodLoop at h
  obtain ⟨⟨u, c⟩, hu, h⟩ := except_bind_ok h
  cases c with
  | false => exact .inl ⟨u, hu, by simpa using h⟩
  | true =>
    rcases hv : demodSymbol F u.acc u with ⟨v, turn⟩
    refine .inr ⟨u, v, turn, hu, hv, ?_⟩
    simp only [if_true, hv] at h
    cases turn with
    | go => exact .inl ⟨rfl, h⟩
    | stop =>
      simp only [Except.ok.injEq, Prod.mk.injEq] at h
      exact .inr (.inl ⟨rfl, h.1.symm, h.2.symm⟩)
    | raised e info =>
      simp only [Except.ok.injEq, Prod.mk.injEq] at h
      exact .inr (.inr ⟨e, info, rfl, h.1.symm, h.2.symm⟩)

/-- `DEMOD` writes `OUT` and working registers only. -/
theorem demod_frame {F : Descriptor} {s t : State} {r : AttemptResult} (h : demod F s = .ok (t, r)) :
    SameButWork s t := by
  have loop : ∀ n (s : State), demodLoop F n s = .ok (t, r) → SameButWork s t := by
    intro n
    induction n with
    | zero => intro s h; cases h; rfl
    | succ n ih =>
      intro s h
      rcases demodLoop_succ h with ⟨u, hu, h⟩ | ⟨u, v, turn, hu, hv, h⟩
      · exact (shiftIn_frame hu).trans (ih _ h)
      · have huv : SameButWork s v := by
          have h1 := demodSymbol_frame F u.acc u
          rw [hv] at h1
          exact (shiftIn_frame hu).trans h1
        rcases h with ⟨-, h⟩ | ⟨-, rfl, -⟩ | ⟨e, info, -, rfl, -⟩
        · exact huv.trans (ih _ h)
        · exact huv.trans rfl
        · exact huv
  exact (show SameButWork s (beginDemod s) from rfl).trans (loop _ _ h)

/-! ### The validator -/

/-- `ENDCHK`: which of its two answers, and that it reads only when `CNT >= 2` (R171). -/
theorem endchk_cases {F : Descriptor} {s : State} {c : Check} (h : endchk F s = .ok c) :
    (s.cnt.toNat < 2 ∧ c = .raised .malformedTerminator s.cnt.toNat) ∨
    ∃ ch, 2 ≤ s.cnt.toNat ∧ outRead s (s.cnt.toNat - 2) = .ok ch ∧
      (ch = F.endChar ∧ c = .pass ∨
       ch ≠ F.endChar ∧ c = .raised .malformedTerminator s.cnt.toNat) := by
  unfold endchk at h
  by_cases h2 : s.cnt.toNat < 2
  · simp only [h2, if_true, Except.ok.injEq] at h
    exact .inl ⟨h2, h.symm⟩
  · simp only [h2, if_false] at h
    obtain ⟨ch, hch, h⟩ := except_bind_ok h
    refine .inr ⟨ch, by omega, hch, ?_⟩
    by_cases he : ch = F.endChar
    · simp only [he, if_true, Except.ok.injEq] at h
      exact .inl ⟨he, h.symm⟩
    · simp only [he, if_false, Except.ok.injEq] at h
      exact .inr ⟨he, h.symm⟩

/-- One column of the LRC (R172). -/
theorem lrcFrom_succ {F : Descriptor} {s : State} {c n : Nat} {k : Check}
    (h : lrcFrom F s c (n + 1) = .ok k) :
    ∃ sum, columnSum F s c s.cnt.toNat = .ok sum ∧
      (columnOdd sum = true ∧ k = .raised .longitudinalParityError c ∨
       columnOdd sum = false ∧ lrcFrom F s (c + 1) n = .ok k) := by
  unfold lrcFrom at h
  obtain ⟨sum, hs, h⟩ := except_bind_ok h
  refine ⟨sum, hs, ?_⟩
  cases hc : columnOdd sum
  · simp only [hc] at h
    exact .inr ⟨rfl, by simpa using h⟩
  · simp only [hc, if_true, Except.ok.injEq] at h
    exact .inl ⟨rfl, h.symm⟩

/-- The validator's result is the first check that fails, or `CNT` (R173, R181). -/
theorem validate_cases {F : Descriptor} {s : State} {r : AttemptResult} (h : validate F s = .ok r) :
    (∃ e info, endchk F s = .ok (.raised e info) ∧ r = .err e info) ∨
    (endchk F s = .ok .pass ∧ ∃ e info, lrc F s = .ok (.raised e info) ∧ r = .err e info) ∨
    (endchk F s = .ok .pass ∧ lrc F s = .ok .pass ∧ r = .ok s.cnt) := by
  unfold validate at h
  obtain ⟨c, hc, h⟩ := except_bind_ok h
  cases c with
  | raised e info => exact .inl ⟨e, info, hc, by simpa using h.symm⟩
  | pass =>
    obtain ⟨c', hc', h⟩ := except_bind_ok h
    cases c' with
    | raised e info => exact .inr (.inl ⟨hc, e, info, hc', by simpa using h.symm⟩)
    | pass => exact .inr (.inr ⟨hc, hc', by simpa using h.symm⟩)

/-! ### `ATTEMPT` -/

/-- The stages of an attempt, in their order (R181, R196). -/
theorem attempt_cases {F : Descriptor} {s t : State} {r : AttemptResult}
    (h : attempt F s = .ok (t, r)) :
    (find F s = .ok t ∧ t.startFound = false ∧ r = .err .startSentinelNotFound t.len.toNat) ∨
    ∃ u, find F s = .ok u ∧ u.startFound = true ∧
      ((∃ e info, demod F u = .ok (t, .err e info) ∧ r = .err e info) ∨
       ∃ c, demod F u = .ok (t, .ok c) ∧ validate F t = .ok r) := by
  unfold attempt at h
  obtain ⟨u, hu, h⟩ := except_bind_ok h
  cases hf : u.startFound
  · simp only [hf, Bool.false_eq_true, if_false, Except.ok.injEq, Prod.mk.injEq] at h
    obtain ⟨rfl, rfl⟩ := h
    exact .inl ⟨hu, hf, rfl⟩
  · simp only [hf, if_true] at h
    obtain ⟨⟨v, q⟩, hv, h⟩ := except_bind_ok h
    refine .inr ⟨u, hu, hf, ?_⟩
    cases q with
    | err e info =>
      simp only [Except.ok.injEq, Prod.mk.injEq] at h
      obtain ⟨rfl, rfl⟩ := h
      exact .inl ⟨e, info, hv, rfl⟩
    | ok c =>
      obtain ⟨r', hr', h⟩ := except_bind_ok h
      simp only [Except.ok.injEq, Prod.mk.injEq] at h
      obtain ⟨rfl, rfl⟩ := h
      exact .inr ⟨c, hv, hr'⟩

/-- Everything one symbol can do to a state (log 5). -/
theorem symbolTurn_cases {fmt : Format} {sym : BitVec 8} {s t : State}
    (h : symbolTurn fmt sym s = .next t) :
    (¬ (demodulating s = true ∧ s.fmt = fmt) ∧ t = s) ∨
    ∃ v turn, demodulating s = true ∧ s.fmt = fmt ∧
      demodSymbol (descriptorOf fmt) sym s = (v, turn) ∧
      (turn = .go ∧ t = v ∨
       turn = .stop ∧ concludeRun (descriptorOf fmt) v = .ok t ∨
       ∃ e info, turn = .raised e info ∧ takeError e v = .ok t) := by
  unfold symbolTurn at h
  by_cases hd : demodulating s = true ∧ s.fmt = fmt
  · rcases hv : demodSymbol (descriptorOf fmt) sym s with ⟨v, turn⟩
    simp only [hd, and_self, if_true, hv] at h
    refine .inr ⟨v, turn, hd.1, hd.2, rfl, ?_⟩
    cases turn with
    | go => exact .inl ⟨rfl, by simpa using h.symm⟩
    | stop => exact .inr (.inl ⟨rfl, ofExcept_eq_next h⟩)
    | raised e info => exact .inr (.inr ⟨e, info, rfl, ofExcept_eq_next h⟩)
  · simp only [hd, if_false] at h
    exact .inl ⟨hd, by simpa using h.symm⟩

end Sys2Proof.Machine
end

