-- ==== Sys2Proof/Laws/Exec.lean ====
section
/-! SUPPORT. What `exec` can do, instruction class by instruction class: proofs about every instruction cite
these instead of opening the 168 arms. -/

namespace Sys2Proof.Machine

/-- The symbol rows are the rows of the two tables. -/
def isSymbol (i : Instr) : Bool :=
  match encode i with
  | .event _ => false
  | .sym5 _ => true
  | .sym7 _ => true

/-- Every instruction is one of the eight events or a symbol. -/
theorem instr_cases (i : Instr) :
    (∃ fmt, i = .beginFmt fmt) ∨ i = .stop ∨ (∃ n, i = .setlim n) ∨ i = .cardOn ∨ i = .cardOff ∨
    (∃ b, i = .bit b) ∨ i = .step ∨ i = .hreset ∨ isSymbol i = true := by
  cases i
  case beginFmt fmt => exact .inl ⟨fmt, rfl⟩
  case stop => exact .inr (.inl rfl)
  case setlim n => exact .inr (.inr (.inl ⟨n, rfl⟩))
  case cardOn => exact .inr (.inr (.inr (.inl rfl)))
  case cardOff => exact .inr (.inr (.inr (.inr (.inl rfl))))
  case bit b => exact .inr (.inr (.inr (.inr (.inr (.inl ⟨b, rfl⟩)))))
  case step => exact .inr (.inr (.inr (.inr (.inr (.inr (.inl rfl))))))
  case hreset => exact .inr (.inr (.inr (.inr (.inr (.inr (.inr (.inl rfl)))))))
  all_goals exact .inr (.inr (.inr (.inr (.inr (.inr (.inr (.inr rfl)))))))

/-- The row of a `SYM5` pattern runs one turn of the demodulator on that pattern. -/
theorem exec_decodeSym5 (v : Symbol5) (s : State) :
    exec (decodeSym5 v) s = symbolTurn .num5 (v.setWidth 8) s := by
  have h : ∀ v : Symbol5, ∃ u : BitVec 8, u = v.setWidth 8 ∧
      exec (decodeSym5 v) s = symbolTurn .num5 u s := by
    intro v
    obtain ⟨n, hn⟩ := v
    interval_cases n <;> exact ⟨_, rfl, rfl⟩
  obtain ⟨u, rfl, hu⟩ := h v
  exact hu

/-- The row of a `SYM7` pattern runs one turn of the demodulator on that pattern. -/
theorem exec_decodeSym7 (v : Symbol7) (s : State) :
    exec (decodeSym7 v) s = symbolTurn .alpha7 (v.setWidth 8) s := by
  have h : ∀ v : Symbol7, ∃ u : BitVec 8, u = v.setWidth 8 ∧
      exec (decodeSym7 v) s = symbolTurn .alpha7 u s := by
    intro v
    obtain ⟨n, hn⟩ := v
    interval_cases n <;> exact ⟨_, rfl, rfl⟩
  obtain ⟨u, rfl, hu⟩ := h v
  exact hu

/-- Decoding a symbol's code gives the symbol. -/
theorem decode_encode_symbol (i : Instr) (h : isSymbol i = true) : decode (encode i) = .ok i := by
  cases i
  case beginFmt fmt => cases fmt <;> exact absurd h (by decide)
  case setlim n => exact absurd h Bool.false_ne_true
  case bit b => exact absurd h Bool.false_ne_true
  case stop => exact absurd h Bool.false_ne_true
  case cardOn => exact absurd h Bool.false_ne_true
  case cardOff => exact absurd h Bool.false_ne_true
  case step => exact absurd h Bool.false_ne_true
  case hreset => exact absurd h Bool.false_ne_true
  all_goals rfl

/-- A symbol's meaning is one turn of the demodulator on its accumulator value. -/
theorem exec_symbol (i : Instr) (h : isSymbol i = true) :
    ∃ fmt sym, ∀ s, exec i s = symbolTurn fmt sym s := by
  have hd := decode_encode_symbol i h
  unfold isSymbol at h
  cases hc : encode i with
  | event w => rw [hc] at h; cases h
  | sym5 v =>
    rw [hc] at hd
    have hi : decodeSym5 v = i := by simpa [decode] using hd
    exact ⟨.num5, v.setWidth 8, fun s => hi ▸ exec_decodeSym5 v s⟩
  | sym7 v =>
    rw [hc] at hd
    have hi : decodeSym7 v = i := by simpa [decode] using hd
    exact ⟨.alpha7, v.setWidth 8, fun s => hi ▸ exec_decodeSym7 v s⟩

/-- `BEGIN` (R120). -/
theorem execBegin_cases {fmt : Format} {s t : State} (h : execBegin fmt s = .next t) :
    (s.phase.quiet = true ∧ s.armed = false ∧ t = arm fmt s) ∨
    (¬ (s.phase.quiet = true ∧ s.armed = false) ∧ t = markHaz s) := by
  unfold execBegin at h
  by_cases hq : s.phase.quiet = true ∧ s.armed = false
  · exact .inl ⟨hq.1, hq.2, by simpa [hq] using h.symm⟩
  · simp only [hq, if_false, Host.Outcome.next.injEq] at h
    exact .inr ⟨hq, h.symm⟩

/-- `SETLIM` (R122). -/
theorem execSetlim_cases {n : BitVec 8} {s t : State} (h : execSetlim n s = .next t) :
    (s.phase.quiet = true ∧ t = setLimit n s) ∨ (s.phase.quiet = false ∧ t = markHaz s) := by
  unfold execSetlim at h
  cases hq : s.phase.quiet <;> simp [hq] at h
  · exact .inr ⟨rfl, h.symm⟩
  · exact .inl ⟨rfl, h.symm⟩

/-- `BIT` (R123, R125, R127). -/
theorem execBit_cases {b : Bit} {s t : State} (h : execBit b s = .next t) :
    t = s ∨
    (s.armed = true ∧ s.phase = .capturing ∧ append b s = .ok t) ∨
    (s.armed = true ∧ s.phase.busy = true ∧ t = markHaz s) := by
  unfold execBit at h
  by_cases ha : s.armed = false
  · simp only [ha, if_true, Host.Outcome.next.injEq] at h
    exact .inl h.symm
  · have ha' : s.armed = true := by simpa using ha
    rw [if_neg ha] at h
    split at h
    · rename_i hp; exact .inr (.inl ⟨ha', hp, ofExcept_eq_next h⟩)
    all_goals first
      | (simp only [Host.Outcome.next.injEq] at h; exact .inl h.symm)
      | (rename_i hp; simp only [Host.Outcome.next.injEq] at h
         exact .inr (.inr ⟨ha', by rw [hp]; rfl, h.symm⟩))

/-- `CARDON` (R183). -/
theorem execCardOn_cases {s t : State} (h : execCardOn s = .next t) :
    (s.card = true ∧ t = latchCard true s) ∨
    (s.card = false ∧ s.phase.quiet = true ∧ t = openCapture (resetBuffer (latchCard true s))) ∨
    (s.card = false ∧ s.phase.quiet = false ∧ t = markHaz (latchCard true s)) := by
  unfold execCardOn at h
  cases hc : s.card <;> cases hq : s.phase.quiet <;> simp [hc, hq] at h <;> simp [h]

/-- `CARDOFF` (R184). -/
theorem execCardOff_cases {s t : State} (h : execCardOff s = .next t) :
    (s.card = true ∧ s.phase = .capturing ∧ t = setPhase .captureComplete (latchCard false s)) ∨
    (¬ (s.card = true ∧ s.phase = .capturing) ∧ t = latchCard false s) := by
  unfold execCardOff at h
  by_cases hc : s.card = true ∧ s.phase = .capturing
  · exact .inl ⟨hc.1, hc.2, by simpa [hc] using h.symm⟩
  · simp only [hc, if_false, Host.Outcome.next.injEq] at h
    exact .inr ⟨hc, h.symm⟩

/-- `STEP` (R185 to R188). -/
theorem execStep_cases {s t : State} (h : execStep s = .next t) :
    (s.phase = .captureComplete ∧ t = setPhase .decodingFwd s) ∨
    (s.phase.decoding = true ∧ ∃ u r, attempt (descriptorOf s.fmt) s = .ok (u, r) ∧
      resolveAttempt r u = .ok t) ∨
    (s.phase.busy = false ∧ t = s) := by
  unfold execStep at h
  have run : ofExcept (runAttempt (descriptorOf s.fmt) s) = .next t →
      ∃ u r, attempt (descriptorOf s.fmt) s = .ok (u, r) ∧ resolveAttempt r u = .ok t := by
    intro h
    obtain ⟨⟨u, r⟩, hu, h⟩ := except_bind_ok (ofExcept_eq_next h)
    exact ⟨u, r, hu, h⟩
  split at h
  · rename_i hp; exact .inl ⟨hp, by simpa using h.symm⟩
  · rename_i hp; exact .inr (.inl ⟨by rw [hp]; rfl, run h⟩)
  · rename_i hp; exact .inr (.inl ⟨by rw [hp]; rfl, run h⟩)
  all_goals
    rename_i hp
    simp only [Host.Outcome.next.injEq] at h
    exact .inr (.inr ⟨by rw [hp]; rfl, h.symm⟩)

/-- One step of the machine, by what it fetched. -/
theorem step_cases {s t : State} (h : step s = .next t) :
    (demodulating s = false ∧ s.input = [] ∧ t = s) ∨
    (demodulating s = false ∧ ∃ w i, s.input.head? = some w ∧ decodeEvent w = .ok i ∧
      exec i (dropWord s) = .next t) ∨
    (demodulating s = true ∧ ∃ u, fetchSymbol (descriptorOf s.fmt) s = .ok (u, none) ∧
      concludeRun (descriptorOf u.fmt) u = .ok t) ∨
    (demodulating s = true ∧ ∃ u sym, fetchSymbol (descriptorOf s.fmt) s = .ok (u, some sym) ∧
      exec (symbolInstr s.fmt sym) u = .next t) := by
  unfold step fetch at h
  cases hd : demodulating s
  · simp only [hd, Bool.false_eq_true, if_false, fetchEvent] at h
    cases hi : s.input with
    | nil => simp only [hi, Host.Outcome.next.injEq] at h; exact .inl ⟨rfl, rfl, h.symm⟩
    | cons w rest =>
      simp only [hi] at h
      cases hw : decodeEvent w with
      | ok i => simp only [hw] at h; exact .inr (.inl ⟨rfl, w, i, rfl, hw, h⟩)
      | error r => simp only [hw] at h; cases h
  · simp only [hd, if_true, fetchFromBuffer] at h
    cases hf : fetchSymbol (descriptorOf s.fmt) s with
    | error f => simp only [hf] at h; cases h
    | ok p =>
      obtain ⟨u, o⟩ := p
      cases o with
      | none =>
        simp only [hf] at h
        exact .inr (.inr (.inl ⟨rfl, u, rfl, ofExcept_eq_next h⟩))
      | some sym => simp only [hf] at h; exact .inr (.inr (.inr ⟨rfl, u, sym, rfl, h⟩))

/-! ### The canonical form of the memories at reset and of placed bits -/

/-- The reset state's memories have the canonical form. -/
theorem State.reset_memories_wf :
    Memory.wf State.reset.bits = true ∧ Memory.wf State.reset.out = true :=
  ⟨Memory.wf_nil, Memory.wf_nil⟩

/-- Storing a string of bits keeps the canonical form. -/
theorem storeBits_wf (bs : List Bit) (i : Nat) {m : Cells 1} (h : Memory.wf m = true) :
    Memory.wf (storeBits bs i m) = true := by
  induction bs generalizing i m with
  | nil => exact h
  | cons b rest ih => exact ih (i + 1) (Memory.wf_write h i b)

/-- The cells of an indexed string lie at and above its first index. -/
theorem indexBits_lower (bs : List Bit) (i : Nat) : ∀ p ∈ indexBits bs i, i ≤ p.1 := by
  induction bs generalizing i with
  | nil => intro p hp; cases hp
  | cons b rest ih =>
    intro p hp
    rcases List.mem_cons.1 hp with rfl | hp
    · exact le_rfl
    · exact (Nat.le_succ i).trans (ih (i + 1) p hp)

/-- An indexed string of bits has the canonical form. -/
theorem indexBits_wf (bs : List Bit) (i : Nat) : Memory.wf (indexBits bs i) = true := by
  simp only [Memory.wf, decide_eq_true_eq]
  induction bs generalizing i with
  | nil => exact List.Pairwise.nil
  | cons b rest ih => exact List.Pairwise.cons (indexBits_lower rest (i + 1)) (ih (i + 1))

end Sys2Proof.Machine
end

