-- ==== Sys2Proof/Laws/PerInstr.lean ====
section
/-! SUPPORT. Statements made per instruction: one lemma per constructor of `Instr`. -/

namespace Sys2Proof.Laws

/-- Decoding the code of a well-formed instruction gives the instruction back. -/
def CodeRoundTrip.Statement (i : Instr) : Prop :=
  i.wf = true → decode (encode i) = .ok i

theorem CodeRoundTrip.beginFmt (fmt : Format) : CodeRoundTrip.Statement (.beginFmt fmt) := by
  intro _; cases fmt <;> rfl

theorem CodeRoundTrip.setlim (n : BitVec 8) : CodeRoundTrip.Statement (.setlim n) := by
  intro _; revert n; decide

theorem CodeRoundTrip.bit (b : Bit) : CodeRoundTrip.Statement (.bit b) := by
  intro _; revert b; decide

theorem CodeRoundTrip.stop : CodeRoundTrip.Statement .stop := fun _ => rfl
theorem CodeRoundTrip.cardOn : CodeRoundTrip.Statement .cardOn := fun _ => rfl
theorem CodeRoundTrip.cardOff : CodeRoundTrip.Statement .cardOff := fun _ => rfl
theorem CodeRoundTrip.step : CodeRoundTrip.Statement .step := fun _ => rfl
theorem CodeRoundTrip.hreset : CodeRoundTrip.Statement .hreset := fun _ => rfl
theorem CodeRoundTrip.sym5Null : CodeRoundTrip.Statement .sym5Null := fun _ => rfl
theorem CodeRoundTrip.sym5Char30 : CodeRoundTrip.Statement .sym5Char30 := fun _ => rfl
theorem CodeRoundTrip.sym5Char38 : CodeRoundTrip.Statement .sym5Char38 := fun _ => rfl
theorem CodeRoundTrip.sym5Illegal03 : CodeRoundTrip.Statement .sym5Illegal03 := fun _ => rfl
theorem CodeRoundTrip.sym5Char34 : CodeRoundTrip.Statement .sym5Char34 := fun _ => rfl
theorem CodeRoundTrip.sym5Illegal05 : CodeRoundTrip.Statement .sym5Illegal05 := fun _ => rfl
theorem CodeRoundTrip.sym5Illegal06 : CodeRoundTrip.Statement .sym5Illegal06 := fun _ => rfl
theorem CodeRoundTrip.sym5Char3C : CodeRoundTrip.Statement .sym5Char3C := fun _ => rfl
theorem CodeRoundTrip.sym5Char32 : CodeRoundTrip.Statement .sym5Char32 := fun _ => rfl
theorem CodeRoundTrip.sym5Illegal09 : CodeRoundTrip.Statement .sym5Illegal09 := fun _ => rfl
theorem CodeRoundTrip.sym5Illegal0A : CodeRoundTrip.Statement .sym5Illegal0A := fun _ => rfl
theorem CodeRoundTrip.sym5Char3A : CodeRoundTrip.Statement .sym5Char3A := fun _ => rfl
theorem CodeRoundTrip.sym5Illegal0C : CodeRoundTrip.Statement .sym5Illegal0C := fun _ => rfl
theorem CodeRoundTrip.sym5Char36 : CodeRoundTrip.Statement .sym5Char36 := fun _ => rfl
theorem CodeRoundTrip.sym5Char3E : CodeRoundTrip.Statement .sym5Char3E := fun _ => rfl
theorem CodeRoundTrip.sym5Illegal0F : CodeRoundTrip.Statement .sym5Illegal0F := fun _ => rfl
theorem CodeRoundTrip.sym5Char31 : CodeRoundTrip.Statement .sym5Char31 := fun _ => rfl
theorem CodeRoundTrip.sym5Illegal11 : CodeRoundTrip.Statement .sym5Illegal11 := fun _ => rfl
theorem CodeRoundTrip.sym5Illegal12 : CodeRoundTrip.Statement .sym5Illegal12 := fun _ => rfl
theorem CodeRoundTrip.sym5Char39 : CodeRoundTrip.Statement .sym5Char39 := fun _ => rfl
theorem CodeRoundTrip.sym5Illegal14 : CodeRoundTrip.Statement .sym5Illegal14 := fun _ => rfl
theorem CodeRoundTrip.sym5Char35 : CodeRoundTrip.Statement .sym5Char35 := fun _ => rfl
theorem CodeRoundTrip.sym5Char3D : CodeRoundTrip.Statement .sym5Char3D := fun _ => rfl
theorem CodeRoundTrip.sym5Illegal17 : CodeRoundTrip.Statement .sym5Illegal17 := fun _ => rfl
theorem CodeRoundTrip.sym5Illegal18 : CodeRoundTrip.Statement .sym5Illegal18 := fun _ => rfl
theorem CodeRoundTrip.sym5Char33 : CodeRoundTrip.Statement .sym5Char33 := fun _ => rfl
theorem CodeRoundTrip.sym5Char3B : CodeRoundTrip.Statement .sym5Char3B := fun _ => rfl
theorem CodeRoundTrip.sym5Illegal1B : CodeRoundTrip.Statement .sym5Illegal1B := fun _ => rfl
theorem CodeRoundTrip.sym5Char37 : CodeRoundTrip.Statement .sym5Char37 := fun _ => rfl
theorem CodeRoundTrip.sym5Illegal1D : CodeRoundTrip.Statement .sym5Illegal1D := fun _ => rfl
theorem CodeRoundTrip.sym5Illegal1E : CodeRoundTrip.Statement .sym5Illegal1E := fun _ => rfl
theorem CodeRoundTrip.sym5Char3F : CodeRoundTrip.Statement .sym5Char3F := fun _ => rfl
theorem CodeRoundTrip.sym7Null : CodeRoundTrip.Statement .sym7Null := fun _ => rfl
theorem CodeRoundTrip.sym7Char20 : CodeRoundTrip.Statement .sym7Char20 := fun _ => rfl
theorem CodeRoundTrip.sym7Char40 : CodeRoundTrip.Statement .sym7Char40 := fun _ => rfl
theorem CodeRoundTrip.sym7Illegal03 : CodeRoundTrip.Statement .sym7Illegal03 := fun _ => rfl
theorem CodeRoundTrip.sym7Char30 : CodeRoundTrip.Statement .sym7Char30 := fun _ => rfl
theorem CodeRoundTrip.sym7Illegal05 : CodeRoundTrip.Statement .sym7Illegal05 := fun _ => rfl
theorem CodeRoundTrip.sym7Illegal06 : CodeRoundTrip.Statement .sym7Illegal06 := fun _ => rfl
theorem CodeRoundTrip.sym7Char50 : CodeRoundTrip.Statement .sym7Char50 := fun _ => rfl
theorem CodeRoundTrip.sym7Char28 : CodeRoundTrip.Statement .sym7Char28 := fun _ => rfl
theorem CodeRoundTrip.sym7Illegal09 : CodeRoundTrip.Statement .sym7Illegal09 := fun _ => rfl
theorem CodeRoundTrip.sym7Illegal0A : CodeRoundTrip.Statement .sym7Illegal0A := fun _ => rfl
theorem CodeRoundTrip.sym7Char48 : CodeRoundTrip.Statement .sym7Char48 := fun _ => rfl
theorem CodeRoundTrip.sym7Illegal0C : CodeRoundTrip.Statement .sym7Illegal0C := fun _ => rfl
theorem CodeRoundTrip.sym7Char38 : CodeRoundTrip.Statement .sym7Char38 := fun _ => rfl
theorem CodeRoundTrip.sym7Char58 : CodeRoundTrip.Statement .sym7Char58 := fun _ => rfl
theorem CodeRoundTrip.sym7Illegal0F : CodeRoundTrip.Statement .sym7Illegal0F := fun _ => rfl
theorem CodeRoundTrip.sym7Char24 : CodeRoundTrip.Statement .sym7Char24 := fun _ => rfl
theorem CodeRoundTrip.sym7Illegal11 : CodeRoundTrip.Statement .sym7Illegal11 := fun _ => rfl
theorem CodeRoundTrip.sym7Illegal12 : CodeRoundTrip.Statement .sym7Illegal12 := fun _ => rfl
theorem CodeRoundTrip.sym7Char44 : CodeRoundTrip.Statement .sym7Char44 := fun _ => rfl
theorem CodeRoundTrip.sym7Illegal14 : CodeRoundTrip.Statement .sym7Illegal14 := fun _ => rfl
theorem CodeRoundTrip.sym7Char34 : CodeRoundTrip.Statement .sym7Char34 := fun _ => rfl
theorem CodeRoundTrip.sym7Char54 : CodeRoundTrip.Statement .sym7Char54 := fun _ => rfl
theorem CodeRoundTrip.sym7Illegal17 : CodeRoundTrip.Statement .sym7Illegal17 := fun _ => rfl
theorem CodeRoundTrip.sym7Illegal18 : CodeRoundTrip.Statement .sym7Illegal18 := fun _ => rfl
theorem CodeRoundTrip.sym7Char2C : CodeRoundTrip.Statement .sym7Char2C := fun _ => rfl
theorem CodeRoundTrip.sym7Char4C : CodeRoundTrip.Statement .sym7Char4C := fun _ => rfl
theorem CodeRoundTrip.sym7Illegal1B : CodeRoundTrip.Statement .sym7Illegal1B := fun _ => rfl
theorem CodeRoundTrip.sym7Char3C : CodeRoundTrip.Statement .sym7Char3C := fun _ => rfl
theorem CodeRoundTrip.sym7Illegal1D : CodeRoundTrip.Statement .sym7Illegal1D := fun _ => rfl
theorem CodeRoundTrip.sym7Illegal1E : CodeRoundTrip.Statement .sym7Illegal1E := fun _ => rfl
theorem CodeRoundTrip.sym7Char5C : CodeRoundTrip.Statement .sym7Char5C := fun _ => rfl
theorem CodeRoundTrip.sym7Char22 : CodeRoundTrip.Statement .sym7Char22 := fun _ => rfl
theorem CodeRoundTrip.sym7Illegal21 : CodeRoundTrip.Statement .sym7Illegal21 := fun _ => rfl
theorem CodeRoundTrip.sym7Illegal22 : CodeRoundTrip.Statement .sym7Illegal22 := fun _ => rfl
theorem CodeRoundTrip.sym7Char42 : CodeRoundTrip.Statement .sym7Char42 := fun _ => rfl
theorem CodeRoundTrip.sym7Illegal24 : CodeRoundTrip.Statement .sym7Illegal24 := fun _ => rfl
theorem CodeRoundTrip.sym7Char32 : CodeRoundTrip.Statement .sym7Char32 := fun _ => rfl
theorem CodeRoundTrip.sym7Char52 : CodeRoundTrip.Statement .sym7Char52 := fun _ => rfl
theorem CodeRoundTrip.sym7Illegal27 : CodeRoundTrip.Statement .sym7Illegal27 := fun _ => rfl
theorem CodeRoundTrip.sym7Illegal28 : CodeRoundTrip.Statement .sym7Illegal28 := fun _ => rfl
theorem CodeRoundTrip.sym7Char2A : CodeRoundTrip.Statement .sym7Char2A := fun _ => rfl
theorem CodeRoundTrip.sym7Char4A : CodeRoundTrip.Statement .sym7Char4A := fun _ => rfl
theorem CodeRoundTrip.sym7Illegal2B : CodeRoundTrip.Statement .sym7Illegal2B := fun _ => rfl
theorem CodeRoundTrip.sym7Char3A : CodeRoundTrip.Statement .sym7Char3A := fun _ => rfl
theorem CodeRoundTrip.sym7Illegal2D : CodeRoundTrip.Statement .sym7Illegal2D := fun _ => rfl
theorem CodeRoundTrip.sym7Illegal2E : CodeRoundTrip.Statement .sym7Illegal2E := fun _ => rfl
theorem CodeRoundTrip.sym7Char5A : CodeRoundTrip.Statement .sym7Char5A := fun _ => rfl
theorem CodeRoundTrip.sym7Illegal30 : CodeRoundTrip.Statement .sym7Illegal30 := fun _ => rfl
theorem CodeRoundTrip.sym7Char26 : CodeRoundTrip.Statement .sym7Char26 := fun _ => rfl
theorem CodeRoundTrip.sym7Char46 : CodeRoundTrip.Statement .sym7Char46 := fun _ => rfl
theorem CodeRoundTrip.sym7Illegal33 : CodeRoundTrip.Statement .sym7Illegal33 := fun _ => rfl
theorem CodeRoundTrip.sym7Char36 : CodeRoundTrip.Statement .sym7Char36 := fun _ => rfl
theorem CodeRoundTrip.sym7Illegal35 : CodeRoundTrip.Statement .sym7Illegal35 := fun _ => rfl
theorem CodeRoundTrip.sym7Illegal36 : CodeRoundTrip.Statement .sym7Illegal36 := fun _ => rfl
theorem CodeRoundTrip.sym7Char56 : CodeRoundTrip.Statement .sym7Char56 := fun _ => rfl
theorem CodeRoundTrip.sym7Char2E : CodeRoundTrip.Statement .sym7Char2E := fun _ => rfl
theorem CodeRoundTrip.sym7Illegal39 : CodeRoundTrip.Statement .sym7Illegal39 := fun _ => rfl
theorem CodeRoundTrip.sym7Illegal3A : CodeRoundTrip.Statement .sym7Illegal3A := fun _ => rfl
theorem CodeRoundTrip.sym7Char4E : CodeRoundTrip.Statement .sym7Char4E := fun _ => rfl
theorem CodeRoundTrip.sym7Illegal3C : CodeRoundTrip.Statement .sym7Illegal3C := fun _ => rfl
theorem CodeRoundTrip.sym7Char3E : CodeRoundTrip.Statement .sym7Char3E := fun _ => rfl
theorem CodeRoundTrip.sym7Char5E : CodeRoundTrip.Statement .sym7Char5E := fun _ => rfl
theorem CodeRoundTrip.sym7Illegal3F : CodeRoundTrip.Statement .sym7Illegal3F := fun _ => rfl
theorem CodeRoundTrip.sym7Char21 : CodeRoundTrip.Statement .sym7Char21 := fun _ => rfl
theorem CodeRoundTrip.sym7Illegal41 : CodeRoundTrip.Statement .sym7Illegal41 := fun _ => rfl
theorem CodeRoundTrip.sym7Illegal42 : CodeRoundTrip.Statement .sym7Illegal42 := fun _ => rfl
theorem CodeRoundTrip.sym7Char41 : CodeRoundTrip.Statement .sym7Char41 := fun _ => rfl
theorem CodeRoundTrip.sym7Illegal44 : CodeRoundTrip.Statement .sym7Illegal44 := fun _ => rfl
theorem CodeRoundTrip.sym7Char31 : CodeRoundTrip.Statement .sym7Char31 := fun _ => rfl
theorem CodeRoundTrip.sym7Char51 : CodeRoundTrip.Statement .sym7Char51 := fun _ => rfl
theorem CodeRoundTrip.sym7Illegal47 : CodeRoundTrip.Statement .sym7Illegal47 := fun _ => rfl
theorem CodeRoundTrip.sym7Illegal48 : CodeRoundTrip.Statement .sym7Illegal48 := fun _ => rfl
theorem CodeRoundTrip.sym7Char29 : CodeRoundTrip.Statement .sym7Char29 := fun _ => rfl
theorem CodeRoundTrip.sym7Char49 : CodeRoundTrip.Statement .sym7Char49 := fun _ => rfl
theorem CodeRoundTrip.sym7Illegal4B : CodeRoundTrip.Statement .sym7Illegal4B := fun _ => rfl
theorem CodeRoundTrip.sym7Char39 : CodeRoundTrip.Statement .sym7Char39 := fun _ => rfl
theorem CodeRoundTrip.sym7Illegal4D : CodeRoundTrip.Statement .sym7Illegal4D := fun _ => rfl
theorem CodeRoundTrip.sym7Illegal4E : CodeRoundTrip.Statement .sym7Illegal4E := fun _ => rfl
theorem CodeRoundTrip.sym7Char59 : CodeRoundTrip.Statement .sym7Char59 := fun _ => rfl
theorem CodeRoundTrip.sym7Illegal50 : CodeRoundTrip.Statement .sym7Illegal50 := fun _ => rfl
theorem CodeRoundTrip.sym7Char25 : CodeRoundTrip.Statement .sym7Char25 := fun _ => rfl
theorem CodeRoundTrip.sym7Char45 : CodeRoundTrip.Statement .sym7Char45 := fun _ => rfl
theorem CodeRoundTrip.sym7Illegal53 : CodeRoundTrip.Statement .sym7Illegal53 := fun _ => rfl
theorem CodeRoundTrip.sym7Char35 : CodeRoundTrip.Statement .sym7Char35 := fun _ => rfl
theorem CodeRoundTrip.sym7Illegal55 : CodeRoundTrip.Statement .sym7Illegal55 := fun _ => rfl
theorem CodeRoundTrip.sym7Illegal56 : CodeRoundTrip.Statement .sym7Illegal56 := fun _ => rfl
theorem CodeRoundTrip.sym7Char55 : CodeRoundTrip.Statement .sym7Char55 := fun _ => rfl
theorem CodeRoundTrip.sym7Char2D : CodeRoundTrip.Statement .sym7Char2D := fun _ => rfl
theorem CodeRoundTrip.sym7Illegal59 : CodeRoundTrip.Statement .sym7Illegal59 := fun _ => rfl
theorem CodeRoundTrip.sym7Illegal5A : CodeRoundTrip.Statement .sym7Illegal5A := fun _ => rfl
theorem CodeRoundTrip.sym7Char4D : CodeRoundTrip.Statement .sym7Char4D := fun _ => rfl
theorem CodeRoundTrip.sym7Illegal5C : CodeRoundTrip.Statement .sym7Illegal5C := fun _ => rfl
theorem CodeRoundTrip.sym7Char3D : CodeRoundTrip.Statement .sym7Char3D := fun _ => rfl
theorem CodeRoundTrip.sym7Char5D : CodeRoundTrip.Statement .sym7Char5D := fun _ => rfl
theorem CodeRoundTrip.sym7Illegal5F : CodeRoundTrip.Statement .sym7Illegal5F := fun _ => rfl
theorem CodeRoundTrip.sym7Illegal60 : CodeRoundTrip.Statement .sym7Illegal60 := fun _ => rfl
theorem CodeRoundTrip.sym7Char23 : CodeRoundTrip.Statement .sym7Char23 := fun _ => rfl
theorem CodeRoundTrip.sym7Char43 : CodeRoundTrip.Statement .sym7Char43 := fun _ => rfl
theorem CodeRoundTrip.sym7Illegal63 : CodeRoundTrip.Statement .sym7Illegal63 := fun _ => rfl
theorem CodeRoundTrip.sym7Char33 : CodeRoundTrip.Statement .sym7Char33 := fun _ => rfl
theorem CodeRoundTrip.sym7Illegal65 : CodeRoundTrip.Statement .sym7Illegal65 := fun _ => rfl
theorem CodeRoundTrip.sym7Illegal66 : CodeRoundTrip.Statement .sym7Illegal66 := fun _ => rfl
theorem CodeRoundTrip.sym7Char53 : CodeRoundTrip.Statement .sym7Char53 := fun _ => rfl
theorem CodeRoundTrip.sym7Char2B : CodeRoundTrip.Statement .sym7Char2B := fun _ => rfl
theorem CodeRoundTrip.sym7Illegal69 : CodeRoundTrip.Statement .sym7Illegal69 := fun _ => rfl
theorem CodeRoundTrip.sym7Illegal6A : CodeRoundTrip.Statement .sym7Illegal6A := fun _ => rfl
theorem CodeRoundTrip.sym7Char4B : CodeRoundTrip.Statement .sym7Char4B := fun _ => rfl
theorem CodeRoundTrip.sym7Illegal6C : CodeRoundTrip.Statement .sym7Illegal6C := fun _ => rfl
theorem CodeRoundTrip.sym7Char3B : CodeRoundTrip.Statement .sym7Char3B := fun _ => rfl
theorem CodeRoundTrip.sym7Char5B : CodeRoundTrip.Statement .sym7Char5B := fun _ => rfl
theorem CodeRoundTrip.sym7Illegal6F : CodeRoundTrip.Statement .sym7Illegal6F := fun _ => rfl
theorem CodeRoundTrip.sym7Char27 : CodeRoundTrip.Statement .sym7Char27 := fun _ => rfl
theorem CodeRoundTrip.sym7Illegal71 : CodeRoundTrip.Statement .sym7Illegal71 := fun _ => rfl
theorem CodeRoundTrip.sym7Illegal72 : CodeRoundTrip.Statement .sym7Illegal72 := fun _ => rfl
theorem CodeRoundTrip.sym7Char47 : CodeRoundTrip.Statement .sym7Char47 := fun _ => rfl
theorem CodeRoundTrip.sym7Illegal74 : CodeRoundTrip.Statement .sym7Illegal74 := fun _ => rfl
theorem CodeRoundTrip.sym7Char37 : CodeRoundTrip.Statement .sym7Char37 := fun _ => rfl
theorem CodeRoundTrip.sym7Char57 : CodeRoundTrip.Statement .sym7Char57 := fun _ => rfl
theorem CodeRoundTrip.sym7Illegal77 : CodeRoundTrip.Statement .sym7Illegal77 := fun _ => rfl
theorem CodeRoundTrip.sym7Illegal78 : CodeRoundTrip.Statement .sym7Illegal78 := fun _ => rfl
theorem CodeRoundTrip.sym7Char2F : CodeRoundTrip.Statement .sym7Char2F := fun _ => rfl
theorem CodeRoundTrip.sym7Char4F : CodeRoundTrip.Statement .sym7Char4F := fun _ => rfl
theorem CodeRoundTrip.sym7Illegal7B : CodeRoundTrip.Statement .sym7Illegal7B := fun _ => rfl
theorem CodeRoundTrip.sym7Char3F : CodeRoundTrip.Statement .sym7Char3F := fun _ => rfl
theorem CodeRoundTrip.sym7Illegal7D : CodeRoundTrip.Statement .sym7Illegal7D := fun _ => rfl
theorem CodeRoundTrip.sym7Illegal7E : CodeRoundTrip.Statement .sym7Illegal7E := fun _ => rfl
theorem CodeRoundTrip.sym7Char5F : CodeRoundTrip.Statement .sym7Char5F := fun _ => rfl

end Sys2Proof.Laws
end

