-- ==== Sys2Proof/Tests/Slice0.lean ====
section
/-! SUPPORT. Tests of the model against words, tables and vectors of the spec (R92, R96, R97, 95_test_vectors)
and, for every statement with hypotheses, a named witness: a concrete state and operands that meet all of
them together. -/

open Sys2Proof Sys2Proof.Machine Sys2Proof.Claims

namespace Sys2Proof.Tests

/-! ### Small states, and what a test looks at -/

/-- A state in phase `p` whose buffer holds exactly the bits of `v`, in stream order. -/
def holding {w : Nat} (fmt : Format) (limit : BitVec 8) (p : Phase) (v : BitVec w) : State :=
  { State.reset with
    bits := indexBits (streamBits v) 0, len := BitVec.ofNat 16 w, fmt := fmt, sizeLimit := limit,
    phase := p }

/-- That state inside an attempt, `FIND` having answered offset 0 and nothing demodulated yet. -/
def demodulatingAt {w : Nat} (fmt : Format) (limit : BitVec 8) (p : Phase) (v : BitVec w) : State :=
  { holding fmt limit p v with startFound := true, engine := .demodulating }

/-- The vector DM7 (`11010 00000 10000`) in `DECODING_FWD`, inside the attempt, after its first symbol. -/
def afterSentinel : State :=
  { demodulatingAt .num5 7 .decodingFwd (0b110100000010000 : BitVec 15) with
    acc := 0x1A, idx := 5, cnt := 1, out := [(0, 0x3B)] }

/-- The same run in `DECODING_REV`. -/
def afterSentinelRev : State :=
  { afterSentinel with phase := .decodingRev, errFwd := .startSentinelNotFound }

/-- The smallest record (vector L6, `;?4`), accepted as `FORWARD`. -/
def accepted : State :=
  { holding .num5 7 .successFwd (0b110101111100100 : BitVec 15) with
    out := [(0, 0x3B), (1, 0x3F), (2, 0x34), (3, 0x00)], count := 3, ok := true, dir := .forward }

/-- The next state, where there is one. -/
def nextState (r : Result) : Option State :=
  match r with
  | .next s => some s
  | .fault _ => none
  | .refused _ => none

theorem exists_next_of_nextState {r : Result} (h : (nextState r).isSome = true) : ∃ t, r = .next t := by
  cases r with
  | next t => exact ⟨t, rfl⟩
  | fault f => exact absurd h Bool.false_ne_true
  | refused f => exact absurd h Bool.false_ne_true

/-- `STATE`, `COUNT`, `DIR` and the two codes. -/
def outcome (s : State) : Phase × BitVec 8 × Direction × ErrCode × ErrCode :=
  (s.phase, s.count, s.dir, s.errFwd, s.errRev)

/-! ### WellFormed refuses -/

/-- D1: the capacity is a natural from 1 to 65535. -/
theorem test_config_refuses_capacity_out_of_range :
    Config.wf { bufCap := 0 } = false ∧ Config.wf { bufCap := 65536 } = false ∧
    Config.wf { bufCap := 1 } = true ∧ Config.wf { bufCap := 65535 } = true := by
  decide

/-- R11: `2 <= F.W <= 8`. -/
theorem test_descriptor_refuses_width :
    Descriptor.wf { num5 with width := 1, mask := 0x01, pattern := 0x01 } = false ∧
    Descriptor.wf { num5 with width := 9, mask := 0xFF } = false := by
  decide

/-- R11: `F.MASK = 2^F.W - 1`. -/
theorem test_descriptor_refuses_mask : Descriptor.wf { num5 with mask := 0x0F } = false := by
  decide

/-- R11: bit `F.W - 1` of `F.PATTERN` is 1. -/
theorem test_descriptor_refuses_pattern_without_its_first_bit :
    Descriptor.wf { num5 with pattern := 0x0B } = false := by
  decide

/-- R11: `F.PATTERN` has odd parity. -/
theorem test_descriptor_refuses_even_pattern : Descriptor.wf { num5 with pattern := 0x18 } = false := by
  decide

/-- R11: `F.MAP(F.PATTERN)` is a character. -/
theorem test_descriptor_refuses_unmapped_pattern :
    Descriptor.wf { num5 with map := fun _ => none } = false := by
  decide

/-- R11: both fixed descriptors are well-formed. -/
theorem test_fixed_descriptors_wf : num5.wf = true ∧ alpha7.wf = true := by
  decide

/-- R93: a trace with a word that spells no event is refused. -/
theorem test_trace_refuses_invalid_word :
    traceWf [0x1001, 0x1002] = false ∧ traceWf [0x1001, 0xF000] = true := by
  decide

/-! ### Decode: words of 30_encoding and 95_test_vectors section 7 -/

/-- Every legal word of the decode vectors, written out bit by bit: `OP` in bits 15 to 12. -/
theorem test_decode_event_words :
    decodeEvent 0b0001000000000000 = .ok (.beginFmt .num5) ∧
    decodeEvent 0b0001000000000001 = .ok (.beginFmt .alpha7) ∧
    decodeEvent 0b0010000000000000 = .ok .stop ∧
    decodeEvent 0b0011000000000000 = .ok (.setlim 0) ∧
    decodeEvent 0b0011000000101000 = .ok (.setlim 40) ∧
    decodeEvent 0b0011000011111111 = .ok (.setlim 255) ∧
    decodeEvent 0b0100000000000000 = .ok .cardOn ∧
    decodeEvent 0b0101000000000000 = .ok .cardOff ∧
    decodeEvent 0b0110000000000000 = .ok (.bit 0) ∧
    decodeEvent 0b0110000000000001 = .ok (.bit 1) ∧
    decodeEvent 0b0111000000000000 = .ok .step ∧
    decodeEvent 0b1111000000000000 = .ok .hreset := by
  decide

/-- Every invalid word of the decode vectors. -/
theorem test_decode_invalid_words :
    [0x1002, 0x1801, 0x2001, 0x3100, 0x4001, 0x5800, 0x6002, 0x7FFF, 0xF001, 0x0000, 0x8000, 0xE000,
      0xFFFF, 0x0001].all (fun w => !traceWf [w]) = true := by
  decide

/-- The encoder writes the words of R92. -/
theorem test_encode_events :
    [encode (.beginFmt .alpha7), encode .stop, encode (.setlim 40), encode .cardOn, encode .cardOff,
      encode (.bit 1), encode .step, encode .hreset] =
    [.event 0x1001, .event 0x2000, .event 0x3028, .event 0x4000, .event 0x5000, .event 0x6001,
      .event 0x7000, .event 0xF000] := by
  decide

/-- The table's numbering: a word, symbols by their own widths, and a byte (log 8). -/
theorem test_decodeTableWord :
    decodeTableWord 16 0x3028 = some (.setlim 40) ∧ decodeTableWord 16 0x1002 = none ∧
    decodeTableWord 5 0b11010 = some .sym5Char3B ∧ decodeTableWord 7 0b0001011 = some .sym7Char48 ∧
    decodeTableWord 8 0b11010 = some .sym5Char3B ∧ decodeTableWord 8 0b1010001 = some .sym7Char25 := by
  decide

/-- The 32 rows of R96, the stream bits read as a numeral. -/
theorem test_decode_sym5_rows :
    [
      decodeSym5 0b00000, decodeSym5 0b00001, decodeSym5 0b00010, decodeSym5 0b00011,
      decodeSym5 0b00100, decodeSym5 0b00101, decodeSym5 0b00110, decodeSym5 0b00111,
      decodeSym5 0b01000, decodeSym5 0b01001, decodeSym5 0b01010, decodeSym5 0b01011,
      decodeSym5 0b01100, decodeSym5 0b01101, decodeSym5 0b01110, decodeSym5 0b01111,
      decodeSym5 0b10000, decodeSym5 0b10001, decodeSym5 0b10010, decodeSym5 0b10011,
      decodeSym5 0b10100, decodeSym5 0b10101, decodeSym5 0b10110, decodeSym5 0b10111,
      decodeSym5 0b11000, decodeSym5 0b11001, decodeSym5 0b11010, decodeSym5 0b11011,
      decodeSym5 0b11100, decodeSym5 0b11101, decodeSym5 0b11110, decodeSym5 0b11111] =
    [
      .sym5Null, .sym5Char30, .sym5Char38, .sym5Illegal03, .sym5Char34, .sym5Illegal05, .sym5Illegal06,
      .sym5Char3C, .sym5Char32, .sym5Illegal09, .sym5Illegal0A, .sym5Char3A, .sym5Illegal0C,
      .sym5Char36, .sym5Char3E, .sym5Illegal0F, .sym5Char31, .sym5Illegal11, .sym5Illegal12,
      .sym5Char39, .sym5Illegal14, .sym5Char35, .sym5Char3D, .sym5Illegal17, .sym5Illegal18,
      .sym5Char33, .sym5Char3B, .sym5Illegal1B, .sym5Char37, .sym5Illegal1D, .sym5Illegal1E, .sym5Char3F] := by
  decide

/-- The `SYM7` patterns with stream bits `0000000` to `0011111` (R97, R99). -/
theorem test_decode_sym7_rows_0 :
    [
      decodeSym7 0b0000000, decodeSym7 0b0000001, decodeSym7 0b0000010, decodeSym7 0b0000011,
      decodeSym7 0b0000100, decodeSym7 0b0000101, decodeSym7 0b0000110, decodeSym7 0b0000111,
      decodeSym7 0b0001000, decodeSym7 0b0001001, decodeSym7 0b0001010, decodeSym7 0b0001011,
      decodeSym7 0b0001100, decodeSym7 0b0001101, decodeSym7 0b0001110, decodeSym7 0b0001111,
      decodeSym7 0b0010000, decodeSym7 0b0010001, decodeSym7 0b0010010, decodeSym7 0b0010011,
      decodeSym7 0b0010100, decodeSym7 0b0010101, decodeSym7 0b0010110, decodeSym7 0b0010111,
      decodeSym7 0b0011000, decodeSym7 0b0011001, decodeSym7 0b0011010, decodeSym7 0b0011011,
      decodeSym7 0b0011100, decodeSym7 0b0011101, decodeSym7 0b0011110, decodeSym7 0b0011111] =
    [
      .sym7Null, .sym7Char20, .sym7Char40, .sym7Illegal03, .sym7Char30, .sym7Illegal05, .sym7Illegal06,
      .sym7Char50, .sym7Char28, .sym7Illegal09, .sym7Illegal0A, .sym7Char48, .sym7Illegal0C,
      .sym7Char38, .sym7Char58, .sym7Illegal0F, .sym7Char24, .sym7Illegal11, .sym7Illegal12,
      .sym7Char44, .sym7Illegal14, .sym7Char34, .sym7Char54, .sym7Illegal17, .sym7Illegal18,
      .sym7Char2C, .sym7Char4C, .sym7Illegal1B, .sym7Char3C, .sym7Illegal1D, .sym7Illegal1E, .sym7Char5C] := by
  decide

/-- The `SYM7` patterns with stream bits `0100000` to `0111111` (R97, R99). -/
theorem test_decode_sym7_rows_1 :
    [
      decodeSym7 0b0100000, decodeSym7 0b0100001, decodeSym7 0b0100010, decodeSym7 0b0100011,
      decodeSym7 0b0100100, decodeSym7 0b0100101, decodeSym7 0b0100110, decodeSym7 0b0100111,
      decodeSym7 0b0101000, decodeSym7 0b0101001, decodeSym7 0b0101010, decodeSym7 0b0101011,
      decodeSym7 0b0101100, decodeSym7 0b0101101, decodeSym7 0b0101110, decodeSym7 0b0101111,
      decodeSym7 0b0110000, decodeSym7 0b0110001, decodeSym7 0b0110010, decodeSym7 0b0110011,
      decodeSym7 0b0110100, decodeSym7 0b0110101, decodeSym7 0b0110110, decodeSym7 0b0110111,
      decodeSym7 0b0111000, decodeSym7 0b0111001, decodeSym7 0b0111010, decodeSym7 0b0111011,
      decodeSym7 0b0111100, decodeSym7 0b0111101, decodeSym7 0b0111110, decodeSym7 0b0111111] =
    [
      .sym7Char22, .sym7Illegal21, .sym7Illegal22, .sym7Char42, .sym7Illegal24, .sym7Char32,
      .sym7Char52, .sym7Illegal27, .sym7Illegal28, .sym7Char2A, .sym7Char4A, .sym7Illegal2B,
      .sym7Char3A, .sym7Illegal2D, .sym7Illegal2E, .sym7Char5A, .sym7Illegal30, .sym7Char26,
      .sym7Char46, .sym7Illegal33, .sym7Char36, .sym7Illegal35, .sym7Illegal36, .sym7Char56,
      .sym7Char2E, .sym7Illegal39, .sym7Illegal3A, .sym7Char4E, .sym7Illegal3C, .sym7Char3E,
      .sym7Char5E, .sym7Illegal3F] := by
  decide

/-- The `SYM7` patterns with stream bits `1000000` to `1011111` (R97, R99). -/
theorem test_decode_sym7_rows_2 :
    [
      decodeSym7 0b1000000, decodeSym7 0b1000001, decodeSym7 0b1000010, decodeSym7 0b1000011,
      decodeSym7 0b1000100, decodeSym7 0b1000101, decodeSym7 0b1000110, decodeSym7 0b1000111,
      decodeSym7 0b1001000, decodeSym7 0b1001001, decodeSym7 0b1001010, decodeSym7 0b1001011,
      decodeSym7 0b1001100, decodeSym7 0b1001101, decodeSym7 0b1001110, decodeSym7 0b1001111,
      decodeSym7 0b1010000, decodeSym7 0b1010001, decodeSym7 0b1010010, decodeSym7 0b1010011,
      decodeSym7 0b1010100, decodeSym7 0b1010101, decodeSym7 0b1010110, decodeSym7 0b1010111,
      decodeSym7 0b1011000, decodeSym7 0b1011001, decodeSym7 0b1011010, decodeSym7 0b1011011,
      decodeSym7 0b1011100, decodeSym7 0b1011101, decodeSym7 0b1011110, decodeSym7 0b1011111] =
    [
      .sym7Char21, .sym7Illegal41, .sym7Illegal42, .sym7Char41, .sym7Illegal44, .sym7Char31,
      .sym7Char51, .sym7Illegal47, .sym7Illegal48, .sym7Char29, .sym7Char49, .sym7Illegal4B,
      .sym7Char39, .sym7Illegal4D, .sym7Illegal4E, .sym7Char59, .sym7Illegal50, .sym7Char25,
      .sym7Char45, .sym7Illegal53, .sym7Char35, .sym7Illegal55, .sym7Illegal56, .sym7Char55,
      .sym7Char2D, .sym7Illegal59, .sym7Illegal5A, .sym7Char4D, .sym7Illegal5C, .sym7Char3D,
      .sym7Char5D, .sym7Illegal5F] := by
  decide

/-- The `SYM7` patterns with stream bits `1100000` to `1111111` (R97, R99). -/
theorem test_decode_sym7_rows_3 :
    [
      decodeSym7 0b1100000, decodeSym7 0b1100001, decodeSym7 0b1100010, decodeSym7 0b1100011,
      decodeSym7 0b1100100, decodeSym7 0b1100101, decodeSym7 0b1100110, decodeSym7 0b1100111,
      decodeSym7 0b1101000, decodeSym7 0b1101001, decodeSym7 0b1101010, decodeSym7 0b1101011,
      decodeSym7 0b1101100, decodeSym7 0b1101101, decodeSym7 0b1101110, decodeSym7 0b1101111,
      decodeSym7 0b1110000, decodeSym7 0b1110001, decodeSym7 0b1110010, decodeSym7 0b1110011,
      decodeSym7 0b1110100, decodeSym7 0b1110101, decodeSym7 0b1110110, decodeSym7 0b1110111,
      decodeSym7 0b1111000, decodeSym7 0b1111001, decodeSym7 0b1111010, decodeSym7 0b1111011,
      decodeSym7 0b1111100, decodeSym7 0b1111101, decodeSym7 0b1111110, decodeSym7 0b1111111] =
    [
      .sym7Illegal60, .sym7Char23, .sym7Char43, .sym7Illegal63, .sym7Char33, .sym7Illegal65,
      .sym7Illegal66, .sym7Char53, .sym7Char2B, .sym7Illegal69, .sym7Illegal6A, .sym7Char4B,
      .sym7Illegal6C, .sym7Char3B, .sym7Char5B, .sym7Illegal6F, .sym7Char27, .sym7Illegal71,
      .sym7Illegal72, .sym7Char47, .sym7Illegal74, .sym7Char37, .sym7Char57, .sym7Illegal77,
      .sym7Illegal78, .sym7Char2F, .sym7Char4F, .sym7Illegal7B, .sym7Char3F, .sym7Illegal7D,
      .sym7Illegal7E, .sym7Char5F] := by
  decide

/-! ### The configuration and capture events: the vectors B1 to B17 -/

/-- B1, B2: accepted from reset; refused with `ARMED = 1`, `FMT` stays. -/
theorem test_begin :
    (nextState (exec (.beginFmt .alpha7) .reset)).map (fun s => (s.fmt, s.armed, s.haz)) =
      some (.alpha7, true, false) ∧
    (nextState (exec (.beginFmt .num5) { State.reset with armed := true, fmt := .alpha7 })).map
      (fun s => (s.fmt, s.armed, s.haz)) = some (.alpha7, true, true) := by
  decide

/-- B5: `BEGIN` in `CAPTURING` is refused, `ARMED` stays 0. -/
theorem test_begin_while_capturing :
    (nextState (exec (.beginFmt .num5) { State.reset with phase := .capturing, card := true })).map
      (fun s => (s.armed, s.haz)) = some (false, true) := by
  decide

/-- B3: `STOP` disarms. -/
theorem test_stop :
    (nextState (exec .stop { State.reset with armed := true, phase := .capturing })).map
      (fun s => (s.armed, s.phase)) = some (false, .capturing) := by
  decide

/-- B7, B9: accepted in `IDLE`; in `DECODING_FWD` refused, the limit stays 40. -/
theorem test_setlim :
    (nextState (exec (.setlim 255) .reset)).map (fun s => (s.sizeLimit, s.haz)) = some (255, false) ∧
    (nextState (exec (.setlim 5) { State.reset with phase := .decodingFwd, sizeLimit := 40 })).map
      (fun s => (s.sizeLimit, s.haz)) = some (40, true) := by
  decide

/-- B11, B14: appended at `LEN = 3`; in `CAPTURE_COMPLETE` dropped with `HAZ`. -/
theorem test_bit :
    (nextState (exec (.bit 0)
      { holding .num5 0 .capturing (0b111 : BitVec 3) with armed := true, card := true })).map
      (fun s => (Memory.read? s.bits 3, s.len, s.haz)) = some (some 0, 4, false) ∧
    (nextState (exec (.bit 1)
      { holding .num5 0 .captureComplete (0b111 : BitVec 3) with armed := true })).map
      (fun s => (s.len, s.haz)) = some (3, true) := by
  decide

/-- B16, B17: the last cell is filled without `OVF`; a full buffer stores nothing and sets `OVF`. -/
theorem test_bit_at_capacity :
    (nextState (exec (.bit 1) { holding .num5 0 .capturing (0b111 : BitVec 3) with
      armed := true, card := true, cfg := { bufCap := 4 } })).map
      (fun s => (Memory.read? s.bits 3, s.len, s.ovf)) = some (some 1, 4, false) ∧
    (nextState (exec (.bit 1) { holding .num5 0 .capturing (0b1111 : BitVec 4) with
      armed := true, card := true, cfg := { bufCap := 4 } })).map
      (fun s => (Memory.read? s.bits 4, s.len, s.ovf)) = some (none, 4, true) := by
  decide

/-! ### The card-present events, `STEP`, `HRESET`: the vectors M1 to M12 and section 6 -/

/-- M9: a capture opens from `SUCCESS_REV`, the record is discarded, `DIR` stays. -/
theorem test_cardOn :
    (nextState (exec .cardOn { State.reset with
      phase := .successRev, dir := .backward, count := 7, ok := true,
      errFwd := .startSentinelNotFound })).map (fun s => (outcome s, s.ok, s.card)) =
      some ((.capturing, 0, .backward, .noError, .noError), false, true) := by
  decide

/-- M7: in `DECODING_FWD` the level is latched, `HAZ` set, `STATE` stays. -/
theorem test_cardOn_busy :
    (nextState (exec .cardOn { State.reset with phase := .decodingFwd })).map
      (fun s => (s.card, s.haz, s.phase)) = some (true, true, .decodingFwd) := by
  decide

/-- M3, M8: the capture ends; in `DECODING_FWD` only `CARD` changes. -/
theorem test_cardOff :
    (nextState (exec .cardOff { State.reset with phase := .capturing, card := true, len := 40 })).map
      (fun s => (s.phase, s.card, s.len)) = some (.captureComplete, false, 40) ∧
    (nextState (exec .cardOff { State.reset with phase := .decodingFwd, card := true })).map
      (fun s => (s.phase, s.card)) = some (.decodingFwd, false) := by
  decide

/-- V4 (S9): `110101000` under `NUM5`, limit 40: codes 5 and 2, `FAILURE`, the buffer left reversed. -/
theorem test_step_short_buffer :
    (nextState (engineSteps 3 (holding .num5 40 .captureComplete (0b110101000 : BitVec 9)))).map
      (fun s => (outcome s, bufferBits s)) =
      some ((.failure, 0, .unknown, .malformedTerminator, .startSentinelNotFound),
        [0, 0, 0, 1, 0, 1, 0, 1, 1]) := by
  decide

/-- V5, S7: the stream F40 with limit 7 gives `;123=?9` and `FORWARD`. -/
theorem test_step_forward :
    (nextState (engineSteps 2 (holding .num5 7 .captureComplete
      (0b1101010000010001100110110111111001100000 : BitVec 40)))).map
      (fun s => (outcome s, recordChars s)) =
      some ((.successFwd, 7, .forward, .noError, .noError),
        [0x3B, 0x31, 0x32, 0x33, 0x3D, 0x3F, 0x39]) := by
  decide

/-- L6 with its bits reversed: the as-captured attempt meets `11010` at offset 8 and decodes the sentinel
alone, the reversed one reads `;?4`. -/
theorem test_step_backward :
    (nextState (engineSteps 3 (holding .num5 3 .captureComplete (0b001001111101011 : BitVec 15)))).map
      (fun s => (outcome s, recordChars s)) =
      some ((.successRev, 3, .backward, .malformedTerminator, .noError), [0x3B, 0x3F, 0x34]) := by
  decide

/-- M12: `HRESET` from `DECODING_REV` with `HAZ = 1` (R240). -/
theorem test_hreset :
    (nextState (exec .hreset { afterSentinelRev with haz := true })).map
      (fun s => (outcome s, s.haz, s.len)) =
      some ((.idle, 0, .unknown, .noError, .noError), false, 0) := by
  decide

/-! ### The symbols -/

/-- R96: each legal numeric symbol writes its character of the listing to `OUT[1]` and is counted. -/
theorem test_legal_numeric_symbols :
    num5Characters.map (fun p => (nextState (exec p.1 afterSentinel)).map
      fun s => (s.cnt, Memory.read? s.out 1)) =
    num5Characters.map fun p => some (2, some p.2) := by
  decide

/-- R97: each legal alphanumeric symbol writes its character of the listing to `OUT[0]`, part 1. -/
theorem test_legal_alphanumeric_symbols_0 :
    alpha7Characters0.map (fun p => (nextState
      (exec p.1 (demodulatingAt .alpha7 1 .decodingRev (0 : BitVec 1)))).map State.out) =
    alpha7Characters0.map fun p => some [(0, p.2)] := by
  decide

/-- R97: each legal alphanumeric symbol writes its character of the listing to `OUT[0]`, part 2. -/
theorem test_legal_alphanumeric_symbols_1 :
    alpha7Characters1.map (fun p => (nextState
      (exec p.1 (demodulatingAt .alpha7 1 .decodingRev (0 : BitVec 1)))).map State.out) =
    alpha7Characters1.map fun p => some [(0, p.2)] := by
  decide

/-- R99: each illegal numeric symbol takes `SymbolParityError`. -/
theorem test_illegal_numeric_symbols :
    num5Illegal.map (fun i => (nextState (exec i afterSentinelRev)).map State.errRev) =
      List.replicate 15 (some .symbolParityError) := by
  decide

/-- R99: the first half of the illegal alphanumeric symbols. -/
theorem test_illegal_alphanumeric_symbols_0 :
    alpha7Illegal0.map (fun i => (nextState
      (exec i (demodulatingAt .alpha7 1 .decodingRev (0 : BitVec 1)))).map State.errRev) =
      List.replicate 32 (some .symbolParityError) := by
  decide

/-- R99: the second half. -/
theorem test_illegal_alphanumeric_symbols_1 :
    alpha7Illegal1.map (fun i => (nextState
      (exec i (demodulatingAt .alpha7 1 .decodingRev (0 : BitVec 1)))).map State.errRev) =
      List.replicate 31 (some .symbolParityError) := by
  decide

/-- DM7: the null symbol after the sentinel: the terminator in `OUT[1]`, then `MalformedTerminator`. -/
theorem test_null_symbols :
    (nextState (exec .sym5Null afterSentinel)).map
      (fun s => (s.errFwd, Memory.read? s.out 1)) = some (.malformedTerminator, some 0) ∧
    (nextState (exec .sym7Null (demodulatingAt .alpha7 1 .decodingRev (0 : BitVec 7)))).map
      (fun s => (s.errRev, Memory.read? s.out 0)) = some (.malformedTerminator, some 0) := by
  decide

/-- A placed instruction is the one the next step runs. -/
theorem test_withFetchWord :
    (nextState (step (State.reset.withFetchWord 16 0x1001))).map (fun s => (s.fmt, s.armed)) =
      some (.alpha7, true) ∧
    (nextState (step (State.reset.withFetchWord 8 0b1010001))).map (fun s => (s.fmt, s.phase, s.errFwd)) =
      some (.alpha7, .decodingRev, .outputBufferTooSmall) := by
  decide

/-- R103, R104: a line of a trace, and `FRAME NUM5 ";?"`, whose LRC symbol is `4` (L6). -/
theorem test_trace :
    parseLine ['S', 'E', 'T', 'L', 'I', 'M', ' ', '4', '0', ' ', '#', 'x'] = some [.setlim 40] ∧
    traceFrame .num5 [0x3B, 0x3F] =
      some (traceBits [1, 1, 0, 1, 0, 1, 1, 1, 1, 1, 0, 0, 1, 0, 0]) := by
  decide

/-! ### Witnesses: the hypotheses of the statements can be met -/

section Witnesses

theorem readable_afterSentinel : Readable afterSentinel :=
  ⟨by decide, by decide⟩

theorem readable_afterSentinelRev : Readable afterSentinelRev :=
  ⟨by decide, by decide⟩

theorem runReadable_afterSentinel : RunReadable num5 afterSentinel :=
  ⟨readable_afterSentinel, by decide, by decide⟩

/-- A state inside an attempt that meets the invariant. -/
theorem inv_afterSentinel : Inv afterSentinel where
  memory := ⟨by decide, readable_afterSentinel, by decide, by decide, by decide, by decide⟩
  record := ⟨by decide, by decide, by decide, by decide, by decide, by decide, by decide, by decide,
    by decide, by decide⟩
  run := fun _ => ⟨by decide, by decide, by decide, by decide, by decide, by decide, by decide⟩

/-- A state inside the reversed attempt that meets the invariant. -/
theorem inv_afterSentinelRev : Inv afterSentinelRev where
  memory := ⟨by decide, readable_afterSentinelRev, by decide, by decide, by decide, by decide⟩
  record := ⟨by decide, by decide, by decide, by decide, by decide, by decide, by decide, by decide,
    by decide, by decide⟩
  run := fun _ => ⟨by decide, by decide, by decide, by decide, by decide, by decide, by decide⟩

/-- A state with a record that meets the invariant. -/
theorem inv_accepted : Inv accepted where
  memory := ⟨by decide, ⟨by decide, by decide⟩, by decide, by decide, by decide, by decide⟩
  record := ⟨by decide, by decide, by decide, by decide, by decide, by decide, by decide, by decide,
    by decide, by decide⟩
  run := fun h => absurd h (by decide)

theorem witness_DecodeInvertsEncode : (Instr.setlim 255).wf = true ∧ Instr.sym7Illegal7E.wf = true := by
  decide

theorem witness_EncodeInvertsDecode :
    decode (.event 0x30FF) = .ok (.setlim 255) ∧ decode (.sym7 0x7F) = .ok .sym7Char5F := by
  decide

/-- The first and the last word of each row of R92. -/
theorem witness_EventRowsDecodeAsTheTableSays :
    (0x1000 : EventWord) &&& 0xFFFE = 0x1000 ∧ (0x1001 : EventWord) &&& 0xFFFE = 0x1000 ∧
    (0x2000 : EventWord) &&& 0xFFFF = 0x2000 ∧ (0x3000 : EventWord) &&& 0xFF00 = 0x3000 ∧
    (0x30FF : EventWord) &&& 0xFF00 = 0x3000 ∧ (0x4000 : EventWord) &&& 0xFFFF = 0x4000 ∧
    (0x5000 : EventWord) &&& 0xFFFF = 0x5000 ∧ (0x6000 : EventWord) &&& 0xFFFE = 0x6000 ∧
    (0x6001 : EventWord) &&& 0xFFFE = 0x6000 ∧ (0x7000 : EventWord) &&& 0xFFFF = 0x7000 ∧
    (0xF000 : EventWord) &&& 0xFFFF = 0xF000 := by
  decide

/-- `0x3100` is one past the last word of `SETLIM`, and a state that meets it next. -/
theorem witness_IllegalEventWordsAreRefused :
    ((0x3100 : EventWord) &&& 0xFFFE ≠ 0x1000 ∧ (0x3100 : EventWord) &&& 0xFFFF ≠ 0x2000 ∧
      (0x3100 : EventWord) &&& 0xFF00 ≠ 0x3000 ∧ (0x3100 : EventWord) &&& 0xFFFF ≠ 0x4000 ∧
      (0x3100 : EventWord) &&& 0xFFFF ≠ 0x5000 ∧ (0x3100 : EventWord) &&& 0xFFFE ≠ 0x6000 ∧
      (0x3100 : EventWord) &&& 0xFFFF ≠ 0x7000 ∧ (0x3100 : EventWord) &&& 0xFFFF ≠ 0xF000) ∧
    demodulating { State.reset with input := [0x3100, 0x2000] } = false :=
  ⟨by decide, rfl⟩

theorem witness_symbol_statements :
    parityOk ((0x1F : Symbol5).setWidth 8) = true ∧ parityOk ((0x7F : Symbol7).setWidth 8) = true := by
  decide

theorem witness_StepRunsTheNextEvent :
    demodulating { State.reset with input := [0x1001, 0x2000] } = false ∧
    decodeEvent 0x1001 = .ok (.beginFmt .alpha7) := by
  decide

/-- The null symbol at `IDX = 5` of fifteen bits; and a symbol that ends exactly at `LEN`. -/
theorem witness_StepRunsTheSymbolAtIdx :
    (demodulating afterSentinel = true ∧ Readable afterSentinel ∧ afterSentinel.bitcnt = 0 ∧
      afterSentinel.idx.toNat + (descriptorOf afterSentinel.fmt).width ≤ afterSentinel.len.toNat) ∧
    (demodulating { afterSentinel with idx := 10 } = true ∧ Readable { afterSentinel with idx := 10 } ∧
      ({ afterSentinel with idx := 10 } : State).bitcnt = 0 ∧
      ({ afterSentinel with idx := 10 } : State).idx.toNat + 5 = afterSentinel.len.toNat) :=
  ⟨⟨by decide, readable_afterSentinel, by decide, by decide⟩,
    ⟨by decide, ⟨by decide, by decide⟩, by decide, by decide⟩⟩

/-- Four bits left, and none left. -/
theorem witness_StepEndsTheRunAtTheBufferEnd :
    ∀ i ∈ [(11 : BitVec 16), 15], demodulating { afterSentinel with idx := i } = true ∧
      Readable { afterSentinel with idx := i } ∧ afterSentinel.bitcnt = 0 ∧
      i.toNat ≤ afterSentinel.len.toNat ∧ afterSentinel.len.toNat < i.toNat + num5.width := by
  intro i hi
  fin_cases hi <;> exact ⟨by decide, ⟨by decide, by decide⟩, by decide, by decide, by decide⟩

theorem witness_StepWaitsWithoutAnEvent :
    demodulating State.reset = false ∧ State.reset.input = [] := by
  decide

theorem witness_ExecKeepsParameterAndSchedule :
    ∃ t, exec .cardOn { State.reset with input := [0x5000] } = .next t :=
  exists_next_of_nextState (by decide)

/-- The five arms of `BIT`, the two in `CAPTURING` on the two sides of the capacity. -/
theorem witness_BitIsStoredDroppedOrSetsHaz :
    State.reset.armed = false ∧
    ({ State.reset with armed := true, phase := .capturing, cfg := { bufCap := 4 }, len := 3 } :
      State).len.toNat < 4 ∧
    ({ State.reset with armed := true, phase := .capturing, cfg := { bufCap := 4 }, len := 4 } :
      State).cfg.bufCap ≤ 4 ∧
    (∀ p ∈ [Phase.idle, .successFwd, .successRev, .failure],
      ({ State.reset with armed := true, phase := p } : State).phase.quiet = true) ∧
    ∀ p ∈ [Phase.captureComplete, .decodingFwd, .decodingRev],
      ({ State.reset with armed := true, phase := p } : State).phase.busy = true := by
  decide

theorem witness_CaptureKeepsTheFirstBufCapBits :
    ({ State.reset with armed := true, phase := .capturing, card := true } : State).cfg.wf = true ∧
    ({ State.reset with armed := true, phase := .capturing, card := true } : State).len = 0 := by
  decide

/-- The three arms of `CARDON`, and the two of `STEP` outside an attempt. -/
theorem witness_card_and_step_clauses :
    ({ State.reset with card := true, phase := .capturing } : State).card = true ∧
    State.reset.card = false ∧ State.reset.phase ∈ [Phase.idle, .successFwd, .successRev, .failure] ∧
    ({ State.reset with phase := .decodingRev } : State).phase ∉
      [Phase.idle, .successFwd, .successRev, .failure] ∧
    ({ State.reset with phase := .captureComplete } : State).phase = .captureComplete ∧
    accepted.phase ∈ [Phase.idle, .capturing, .successFwd, .successRev, .failure] := by
  decide

theorem witness_HresetGivesTheResetValues :
    (∃ t, exec .stop { State.reset with haz := true } = .next t) ∧ Instr.stop ≠ .hreset :=
  ⟨exists_next_of_nextState (by decide), by decide⟩

/-- `FIND` over a readable buffer: found at once (F3), found later (F4), not found (F9), empty (F1). -/
theorem witness_FindReportsTheFirstSentinel :
    Readable afterSentinel ∧
    [find num5 (holding .num5 0 .decodingFwd (0b11010 : BitVec 5)),
      find num5 (holding .num5 0 .decodingFwd (0b011010 : BitVec 6)),
      find num5 (holding .num5 0 .decodingFwd (0b01011 : BitVec 5)),
      find num5 (holding .num5 0 .decodingFwd (0 : BitVec 0))].map
      (fun r => r.toOption.map fun s => if s.startFound then some s.start else none) =
      [some (some 0), some (some 1), some none, some none] :=
  ⟨readable_afterSentinel, by decide⟩

/-- DM11 and L6: a run of three symbols from the sentinel, answered `ok(3)`. -/
theorem witness_DemodulatedRunIsLegal :
    0 + num5.width ≤ accepted.len.toNat ∧ symbolAt num5 accepted 0 = num5.pattern ∧
    (demod num5 accepted).toOption.map Prod.snd = some (.ok 3) := by
  decide

/-- DM6 and DM10: a parity error at position 1, and a limit of 0. -/
theorem witness_DemodRaisesAtTheFirstBadSymbol :
    (demod num5 (holding .num5 7 .decodingFwd (0b1101010001 : BitVec 10))).toOption.map Prod.snd =
      some (.err .symbolParityError 1) ∧
    (demod num5 (holding .num5 0 .decodingFwd (0b11010 : BitVec 5))).toOption.map Prod.snd =
      some (.err .outputBufferTooSmall 0) := by
  decide

/-- DM16: four characters written, the fifth refused; and DM7. -/
theorem witness_DemodNeverWritesAboveTheLimit :
    (demod num5 (holding .num5 1 .decodingFwd (0b1101011111 : BitVec 10))).toOption.map Prod.snd =
      some (.err .outputBufferTooSmall 1) ∧
    (demod num5 (holding .num5 1 .decodingFwd (0b1101000000 : BitVec 10))).toOption.map Prod.snd =
      some (.ok 1) := by
  decide

theorem witness_EndchkTestsTheSecondToLastCharacter :
    (∀ j, j < afterSentinel.cnt.toNat → (Memory.read? afterSentinel.out j).isSome = true) ∧
    (∀ j, j < ({ accepted with cnt := 3 } : State).cnt.toNat →
      (Memory.read? accepted.out j).isSome = true) := by
  decide

/-- A run of one symbol, and the whole run of L6, whose columns are even. -/
theorem witness_LrcReportsTheLowestOddColumn :
    RunReadable num5 afterSentinel ∧ RunReadable num5 { accepted with cnt := 3 } :=
  ⟨runReadable_afterSentinel, ⟨⟨by decide, by decide⟩, by decide, by decide⟩⟩

theorem witness_LrcPassesWhenTheTrailerIsTheExclusiveOr :
    RunReadable num5 { accepted with cnt := 3 } ∧ 1 ≤ ({ accepted with cnt := 3 } : State).cnt.toNat ∧
    lrc num5 { accepted with cnt := 3 } = .ok .pass :=
  ⟨⟨⟨by decide, by decide⟩, by decide, by decide⟩, by decide, by decide⟩

theorem witness_TerminatorErrorHidesTheLrc :
    endchk num5 afterSentinel = .ok (.raised .malformedTerminator 1) := by
  decide

theorem witness_attempt_statements :
    (attempt num5 accepted).toOption.map Prod.snd = some (.ok 3) ∧
    (attempt num5 afterSentinel).toOption.map Prod.snd = some (.err .malformedTerminator 1) := by
  decide

/-- Two states with the same buffer and different everything else. -/
theorem witness_AttemptDependsOnTheBufferAlone :
    Readable accepted ∧ { accepted with out := [], acc := 7, phase := .decodingRev }.len = accepted.len ∧
    ∀ i, i < accepted.len.toNat →
      Memory.read? { accepted with out := [], acc := 7, phase := .decodingRev }.bits i =
        Memory.read? accepted.bits i :=
  ⟨⟨by decide, by decide⟩, rfl, fun _ _ => rfl⟩

theorem witness_ReverseReversesTheValidPrefix :
    Readable afterSentinel ∧ Memory.wf afterSentinel.bits = true ∧
    Readable (holding .num5 0 .decodingFwd (1 : BitVec 1)) ∧
    (holding .num5 0 .decodingFwd (1 : BitVec 1)).len ≤ 1 :=
  ⟨readable_afterSentinel, by decide, ⟨by decide, by decide⟩, by decide⟩

/-- In `DECODING_FWD` and in `DECODING_REV`, an attempt that succeeds and one that fails. -/
theorem witness_StepInDecoding :
    ∀ p ∈ [Phase.decodingFwd, .decodingRev],
      (Readable { accepted with phase := p } ∧ ({ accepted with phase := p } : State).phase = p ∧
        (attempt num5 { accepted with phase := p }).toOption.map Prod.snd = some (.ok 3)) ∧
      (Readable { afterSentinel with phase := p } ∧
        (attempt num5 { afterSentinel with phase := p }).toOption.map Prod.snd =
          some (.err .malformedTerminator 1)) := by
  intro p hp
  fin_cases hp <;>
    exact ⟨⟨⟨by decide, by decide⟩, rfl, by decide⟩, ⟨⟨by decide, by decide⟩, by decide⟩⟩

theorem witness_AcceptedRecordIsFramed :
    ({ accepted with phase := .decodingFwd } : State).phase.decoding = true ∧
    (nextState (exec .step { accepted with phase := .decodingFwd })).map (fun t => t.phase.success) =
      some true := by
  decide

/-- In both phases; `CNT` one below the limit, and at it. -/
theorem witness_numeric_symbol_statements :
    ∀ p ∈ [Phase.decodingFwd, .decodingRev],
      demodulating { afterSentinel with phase := p, sizeLimit := 2 } = true ∧
      afterSentinel.fmt = .num5 ∧ Readable { afterSentinel with phase := p } ∧
      afterSentinel.cnt < 2 ∧ (1 : BitVec 8) ≤ afterSentinel.cnt := by
  intro p hp
  fin_cases hp <;> exact ⟨by decide, by decide, ⟨by decide, by decide⟩, by decide, by decide⟩

theorem witness_alphanumeric_symbol_statements :
    ∀ p ∈ [Phase.decodingFwd, .decodingRev],
      demodulating (demodulatingAt .alpha7 1 p (0b1010001 : BitVec 7)) = true ∧
      (demodulatingAt .alpha7 1 p (0b1010001 : BitVec 7)).fmt = .alpha7 ∧
      Readable (demodulatingAt .alpha7 1 p (0b1010001 : BitVec 7)) ∧
      (demodulatingAt .alpha7 1 p (0b1010001 : BitVec 7)).cnt < 1 ∧
      (0 : BitVec 8) ≤ (demodulatingAt .alpha7 0 p (0b1010001 : BitVec 7)).cnt := by
  intro p hp
  fin_cases hp <;> exact ⟨by decide, by decide, ⟨by decide, by decide⟩, by decide, by decide⟩

/-- Both formats; with `CNT = 3` the validator passes and the record is accepted. -/
theorem witness_NullSymbolsEndTheRun :
    (demodulating afterSentinel = true ∧ RunReadable num5 afterSentinel ∧ afterSentinel.fmt = .num5) ∧
    (demodulating { accepted with phase := .decodingFwd, engine := .demodulating, cnt := 3 } = true ∧
      RunReadable num5 { accepted with phase := .decodingFwd, engine := .demodulating, cnt := 3 }) ∧
    (demodulating (demodulatingAt .alpha7 1 .decodingRev (0 : BitVec 7)) = true ∧
      RunReadable alpha7 (demodulatingAt .alpha7 1 .decodingRev (0 : BitVec 7))) :=
  ⟨⟨by decide, runReadable_afterSentinel, rfl⟩,
    ⟨by decide, ⟨⟨by decide, by decide⟩, by decide, by decide⟩⟩,
    ⟨by decide, ⟨⟨by decide, by decide⟩, by decide, by decide⟩⟩⟩

theorem witness_SymbolsElsewhereChangeNothing :
    demodulating accepted = false ∧ afterSentinel.fmt ≠ .alpha7 ∧ Instr.sym5Null ∈ sym5Rows ∧
    Instr.sym7Null ∈ sym7Rows := by
  decide

/-- The invariant's premise and a next state: an event, a symbol, the symbol that ends an attempt. -/
theorem witness_EveryStepKeepsTheInvariant :
    (Inv accepted ∧ ∃ t, step { accepted with input := [0x4000] } = .next t) ∧
    (Inv afterSentinel ∧ ∃ t, step afterSentinel = .next t) ∧
    (Inv afterSentinelRev ∧ ∃ t, step afterSentinelRev = .next t) :=
  ⟨⟨inv_accepted, exists_next_of_nextState (by decide)⟩,
    ⟨inv_afterSentinel, exists_next_of_nextState (by decide)⟩,
    ⟨inv_afterSentinelRev, exists_next_of_nextState (by decide)⟩⟩

theorem witness_NoStepFaults : Inv afterSentinelRev :=
  inv_afterSentinelRev

theorem witness_WellFormedTracesNeverStop :
    Inv afterSentinel ∧ traceWf afterSentinel.input = true ∧ traceWf [0x3000, 0x30FF] = true :=
  ⟨inv_afterSentinel, by decide, by decide⟩

theorem witness_BusyStatesKeepLenAndFmt :
    Instr.cardOn ≠ .hreset ∧ ({ State.reset with phase := .decodingFwd } : State).phase.busy = true ∧
    ∃ t, exec .cardOn { State.reset with phase := .decodingFwd } = .next t :=
  ⟨by decide, by decide, exists_next_of_nextState (by decide)⟩

/-- Each of the four causes on a state that meets the premises. -/
theorem witness_HazHasFourCauses :
    ([exec (.beginFmt .num5) { State.reset with armed := true },
      exec (.setlim 0) { State.reset with phase := .capturing, card := true },
      exec (.bit 0) { State.reset with armed := true, phase := .captureComplete },
      exec .cardOn { State.reset with phase := .decodingRev }].map
      fun r => (nextState r).map State.haz) = [some true, some true, some true, some true] := by
  decide

/-- One move of each kind of the table; the last two are made by symbols of an attempt in progress. -/
theorem witness_StateMovesAsTabulated :
    [exec .hreset accepted, exec .cardOn accepted,
      exec .cardOff { State.reset with card := true, phase := .capturing },
      exec .step { State.reset with phase := .captureComplete },
      exec .step { accepted with phase := .decodingFwd },
      exec .step { accepted with phase := .decodingRev },
      exec .sym5Null afterSentinel, exec .sym5Illegal03 afterSentinelRev].map
      (fun r => (nextState r).map State.phase) =
      [some .idle, some .capturing, some .captureComplete, some .decodingFwd, some .successFwd,
        some .successRev, some .decodingRev, some .failure] := by
  decide

theorem witness_DirChangesOnlyAtTerminalStates :
    Instr.step ≠ .hreset ∧
    (nextState (exec .step { accepted with phase := .decodingRev, ok := false, dir := .unknown })).map
      (fun t => (t.phase, t.dir)) = some (.successRev, .backward) := by
  decide

theorem witness_TwoOrThreeStepsReachATerminalState :
    ∀ s ∈ [{ accepted with phase := .captureComplete }, { afterSentinel with phase := .captureComplete }],
      Readable s ∧ s.phase = .captureComplete := by
  intro s hs
  fin_cases hs <;> exact ⟨⟨by decide, by decide⟩, by decide⟩

/-- A buffer that is exactly full, and an empty one. -/
theorem witness_ResolveAlwaysAnswers :
    Config.wf { bufCap := 15 } = true ∧ (streamBits (0b110101111100100 : BitVec 15)).length ≤ 15 ∧
    ([] : List Bit).length ≤ 15 := by
  decide

/-- The three directions. -/
theorem witness_DecodingTheFinalBufferAgain :
    [resolve { bufCap := 15 } (streamBits (0b110101111100100 : BitVec 15)) .num5 3,
      resolve { bufCap := 15 } (streamBits (0b001001111101011 : BitVec 15)) .num5 3,
      resolve { bufCap := 15 } [] .num5 3].map (fun r => r.map Resolved.dir) =
      [some .forward, some .backward, some .unknown] := by
  decide

theorem witness_BackwardSwipeGivesTheSameRecord :
    (resolve { bufCap := 15 } (streamBits (0b110101111100100 : BitVec 15)) .num5 3).map Resolved.dir =
      some .forward ∧
    (resolve { bufCap := 15 } (streamBits (0b110101111100100 : BitVec 15)).reverse .num5 3).map
      Resolved.errFwd = some .malformedTerminator := by
  decide

/-- `;?` and its LRC symbol between two zeros and one, in a buffer that is exactly full, limit reached. -/
theorem witness_SyntheticFrameDecodesForward :
    Config.wf { bufCap := 18 } = true ∧
    (∀ v ∈ [(0x1A : BitVec 8), 0x1F], v.toNat < 2 ^ num5.width ∧ parityOk v = true) ∧
    [(0x1A : BitVec 8), 0x1F].head? = some num5.pattern ∧
    [(0x1A : BitVec 8), 0x1F].getLast?.bind num5.map = some 0x3F ∧
    [(0x1A : BitVec 8), 0x1F].length + 1 ≤ (3 : BitVec 8).toNat ∧
    (frameStream num5 2 [0x1A, 0x1F] 1).length ≤ 18 := by
  decide

theorem witness_StepIsItsSymbolsOneByOne :
    Readable afterSentinel ∧ afterSentinel.phase.decoding = true ∧
    (find num5 afterSentinel).toOption.map State.startFound = some true :=
  ⟨readable_afterSentinel, by decide, by decide⟩

/-- Each `RESULT` case, and the codes of a record and of a failure (R27, R31, R210). -/
theorem witness_PortsShowTheRegisters :
    accepted.ok = true ∧ ({ State.reset with phase := .failure } : State).ok = false ∧
    State.reset.phase ≠ .failure ∧
    (portState accepted, portDir accepted, portErrFwd accepted, portErrRev accepted) = (5, 1, 0, 0) ∧
    (portState afterSentinelRev, portErrFwd afterSentinelRev) = (4, 2) := by
  decide

theorem witness_OutDataShowsTheRecord :
    Inv accepted ∧ accepted.ok = true ∧ (0 : BitVec 8) ≤ accepted.count ∧ (3 : BitVec 8) ≤ accepted.count :=
  ⟨inv_accepted, by decide, by decide, by decide⟩

theorem witness_SimultaneousEventsAreSerialised :
    serialise ⟨true, some .stop, some .rising, some 1, true⟩ = [.hreset, .stop, .cardOn, .bit 1, .step] ∧
    serialise ⟨false, none, none, some 0, false⟩ = [.bit 0] := by
  decide

end Witnesses

end Sys2Proof.Tests
end

section
/-! SUPPORT. The obligations of 00_scope: the two descriptors, the two steps between events, and that no
instruction writes the parameter or the schedule. -/

namespace Sys2Proof

/-- The Boolean check of a descriptor, taken apart into the conditions of R11. -/
theorem Descriptor.wf_iff (F : Descriptor) :
    F.wf = true ↔
      2 ≤ F.width ∧ F.width ≤ 8 ∧ F.mask.toNat = 2 ^ F.width - 1 ∧
        F.pattern.getLsbD (F.width - 1) = true ∧ Machine.popcount F.pattern % 2 = 1 ∧
        ∃ ch, F.map F.pattern = some ch := by
  simp [Descriptor.wf, Machine.parityOk, Option.isSome_iff_exists, and_assoc]

end Sys2Proof

namespace Sys2Proof.Machine

/-! ### The two descriptors -/

theorem descriptorOf_wf (fmt : Format) : (descriptorOf fmt).wf = true := by
  cases fmt <;> decide

/-! ### A fetch and a step between events -/

theorem fetch_eq_fetchEvent {s : State} (hd : demodulating s = false) : fetch s = fetchEvent s := by
  simp [fetch, hd]

theorem fetchEvent_of_input_nil {s : State} (hin : s.input = []) : fetchEvent s = .waiting := by
  simp [fetchEvent, hin]

theorem fetchEvent_of_decodeEvent {s : State} {w : EventWord} {rest : List EventWord} {i : Instr}
    (hin : s.input = w :: rest) (hw : decodeEvent w = .ok i) :
    fetchEvent s = .instr i { s with input := rest } := by
  simp [fetchEvent, dropWord, hin, hw]

theorem step_of_fetch_instr {s t : State} {i : Instr} (h : fetch s = .instr i t) :
    step s = exec i t := by
  simp [step, h]

theorem step_of_fetch_waiting {s : State} (h : fetch s = .waiting) : step s = .next s := by
  simp [step, h]

/-! ### What leaves the parameter and the schedule alone -/

/-- The fields no event writes: the parameter of R10 (log 2) and the schedule (log 1). -/
def SameParameterAndSchedule (s t : State) : Prop :=
  t.cfg = s.cfg ∧ t.input = s.input

namespace SameParameterAndSchedule

theorem refl (s : State) : SameParameterAndSchedule s s := ⟨rfl, rfl⟩

theorem trans {s t u : State} (h : SameParameterAndSchedule s t)
    (h' : SameParameterAndSchedule t u) : SameParameterAndSchedule s u :=
  ⟨h'.1.trans h.1, h'.2.trans h.2⟩

theorem of_sameButWork {s t : State} (h : SameButWork s t) : SameParameterAndSchedule s t := by
  unfold SameButWork at h
  rw [h]
  exact refl s

theorem of_reverse {s t : State} (h : reverse s = .ok t) : SameParameterAndSchedule s t := by
  rw [reverse_frame h]
  exact refl s

theorem of_append {b : Bit} {s t : State} (h : append b s = .ok t) :
    SameParameterAndSchedule s t := by
  rw [append_eq, Except.ok.injEq] at h
  subst h
  split <;> exact ⟨rfl, rfl⟩

theorem of_takeError {e : ErrCode} {s t : State} (h : takeError e s = .ok t) :
    SameParameterAndSchedule s t := by
  rcases takeError_cases h with ⟨-, u, hu, rfl⟩ | ⟨-, rfl⟩ | ⟨-, rfl⟩
  · obtain ⟨hcfg, hinput⟩ := of_reverse hu
    exact ⟨by simpa using hcfg, by simpa using hinput⟩
  · exact ⟨rfl, rfl⟩
  · exact ⟨rfl, rfl⟩

theorem after_acceptRecord (c : BitVec 8) (s : State) :
    SameParameterAndSchedule s (acceptRecord c s) := by
  rcases acceptRecord_cases c s with ⟨-, h⟩ | ⟨-, h⟩ | ⟨-, h⟩ <;> rw [h] <;> exact ⟨rfl, rfl⟩

theorem of_resolveAttempt {r : AttemptResult} {s t : State} (h : resolveAttempt r s = .ok t) :
    SameParameterAndSchedule s t := by
  cases r with
  | ok cnt => cases h; exact after_acceptRecord cnt s
  | err e info => exact of_takeError h

theorem of_attempt {F : Descriptor} {s t : State} {r : AttemptResult}
    (h : attempt F s = .ok (t, r)) : SameParameterAndSchedule s t := by
  rcases attempt_cases h with ⟨hfind, -, -⟩ | ⟨u, hfind, -, ⟨e, info, hdemod, -⟩ | ⟨c, hdemod, -⟩⟩
  · exact of_sameButWork (find_frame hfind)
  · exact of_sameButWork ((find_frame hfind).trans (demod_frame hdemod))
  · exact of_sameButWork ((find_frame hfind).trans (demod_frame hdemod))

theorem of_concludeRun {F : Descriptor} {s t : State} (h : concludeRun F s = .ok t) :
    SameParameterAndSchedule s t := by
  obtain ⟨r, -, hresolve⟩ := except_bind_ok h
  have hterminate : SameParameterAndSchedule s (terminate s) := ⟨rfl, rfl⟩
  exact hterminate.trans (of_resolveAttempt hresolve)

/-- One symbol: what `DEMOD` does with it, and, where it ends the attempt, the rest of the attempt. -/
theorem of_symbolTurn {fmt : Format} {sym : BitVec 8} {s t : State}
    (h : symbolTurn fmt sym s = .next t) : SameParameterAndSchedule s t := by
  rcases symbolTurn_cases h with ⟨-, rfl⟩ | ⟨v, turn, -, -, hv, hend⟩
  · exact refl t
  · have hsv : SameParameterAndSchedule s v := by
      have hframe := demodSymbol_frame (descriptorOf fmt) sym s
      rw [hv] at hframe
      exact of_sameButWork hframe
    rcases hend with ⟨-, rfl⟩ | ⟨-, hconclude⟩ | ⟨e, info, -, herror⟩
    · exact hsv
    · exact hsv.trans (of_concludeRun hconclude)
    · exact hsv.trans (of_takeError herror)

theorem of_execBegin {fmt : Format} {s t : State} (h : execBegin fmt s = .next t) :
    SameParameterAndSchedule s t := by
  rcases execBegin_cases h with ⟨-, -, rfl⟩ | ⟨-, rfl⟩ <;> exact ⟨rfl, rfl⟩

theorem of_execSetlim {n : BitVec 8} {s t : State} (h : execSetlim n s = .next t) :
    SameParameterAndSchedule s t := by
  rcases execSetlim_cases h with ⟨-, rfl⟩ | ⟨-, rfl⟩ <;> exact ⟨rfl, rfl⟩

theorem of_execBit {b : Bit} {s t : State} (h : execBit b s = .next t) :
    SameParameterAndSchedule s t := by
  rcases execBit_cases h with rfl | ⟨-, -, happend⟩ | ⟨-, -, rfl⟩
  · exact refl t
  · exact of_append happend
  · exact ⟨rfl, rfl⟩

theorem of_execCardOn {s t : State} (h : execCardOn s = .next t) :
    SameParameterAndSchedule s t := by
  rcases execCardOn_cases h with ⟨-, rfl⟩ | ⟨-, -, rfl⟩ | ⟨-, -, rfl⟩ <;> exact ⟨rfl, rfl⟩

theorem of_execCardOff {s t : State} (h : execCardOff s = .next t) :
    SameParameterAndSchedule s t := by
  rcases execCardOff_cases h with ⟨-, -, rfl⟩ | ⟨-, rfl⟩ <;> exact ⟨rfl, rfl⟩

theorem of_execStep {s t : State} (h : execStep s = .next t) : SameParameterAndSchedule s t := by
  rcases execStep_cases h with ⟨-, rfl⟩ | ⟨-, u, r, hattempt, hresolve⟩ | ⟨-, rfl⟩
  · exact ⟨rfl, rfl⟩
  · exact (of_attempt hattempt).trans (of_resolveAttempt hresolve)
  · exact refl t

/-- Instruction class by instruction class: the eight events, and any symbol. -/
theorem of_exec {i : Instr} {s t : State} (h : exec i s = .next t) :
    SameParameterAndSchedule s t := by
  rcases instr_cases i with
    ⟨fmt, rfl⟩ | rfl | ⟨n, rfl⟩ | rfl | rfl | ⟨b, rfl⟩ | rfl | rfl | hsymbol
  · exact of_execBegin h
  · cases h; exact ⟨rfl, rfl⟩
  · exact of_execSetlim h
  · exact of_execCardOn h
  · exact of_execCardOff h
  · exact of_execBit h
  · exact of_execStep h
  · cases h; exact ⟨rfl, rfl⟩
  · obtain ⟨fmt, sym, hturn⟩ := exec_symbol i hsymbol
    rw [hturn] at h
    exact of_symbolTurn h

end SameParameterAndSchedule

/-! ### The obligations -/

/-- Settles O14, from the frame of every instruction class. -/
theorem execKeepsParameterAndSchedule : Obligations.ExecKeepsParameterAndSchedule := by
  intro i s t h
  exact SameParameterAndSchedule.of_exec h

/-- Settles O9, from the well-formedness check, whose condition on the mask the statement leaves out. -/
theorem fixedDescriptorsAreWellFormed : Obligations.FixedDescriptorsAreWellFormed := by
  intro fmt
  obtain ⟨hlow, hhigh, -, hbit, hodd, hmap⟩ := (Descriptor.wf_iff _).1 (descriptorOf_wf fmt)
  exact ⟨hlow, hhigh, hbit, hodd, hmap⟩

/-- Settles O10: the fetch answers the event of the next word. -/
theorem stepRunsTheNextEvent : Obligations.StepRunsTheNextEvent := by
  intro s w rest i hd hin hw
  have hfetch : fetch s = .instr i { s with input := rest } :=
    (fetch_eq_fetchEvent hd).trans (fetchEvent_of_decodeEvent hin hw)
  exact step_of_fetch_instr hfetch

/-- Settles O13: the fetch answers that nothing is scheduled. -/
theorem stepWaitsWithoutAnEvent : Obligations.StepWaitsWithoutAnEvent := by
  intro s hd hin
  have hfetch : fetch s = .waiting := (fetch_eq_fetchEvent hd).trans (fetchEvent_of_input_nil hin)
  exact step_of_fetch_waiting hfetch

end Sys2Proof.Machine
end

section
/-! SUPPORT. Runs of bits as numbers: the window sum of R63, one bit further, cut in two, and below its power
of two; and the accumulator update as arithmetic on that sum. -/

namespace Sys2Proof.Machine

/-! ### Counters -/

/-- A counter below its last value moves on without wrapping round. -/
theorem toNat_add_one {w : Nat} {x : BitVec w} (h : x.toNat + 1 < 2 ^ w) :
    (x + 1).toNat = x.toNat + 1 := by
  rw [BitVec.toNat_add, BitVec.ofNat_eq_ofNat, BitVec.toNat_ofNat, Nat.add_mod_mod, Nat.mod_eq_of_lt h]

/-- A counter below another value of its width moves on without wrapping round. -/
theorem toNat_add_one_of_lt {w : Nat} {x y : BitVec w} (h : x.toNat < y.toNat) :
    (x + 1).toNat = x.toNat + 1 :=
  toNat_add_one (Nat.lt_of_le_of_lt h y.isLt)

/-! ### Windows of the buffer -/

theorem bitAt_of_read? {m : Cells 1} {i : Nat} {b : Bit} (h : Memory.read? m i = some b) :
    bitAt m i = b.toNat := by
  simp [bitAt, h]

theorem bitAt_lt_two (m : Cells 1) (i : Nat) : bitAt m i < 2 :=
  BitVec.isLt _

@[simp] theorem windowValue_zero (m : Cells 1) (p : Nat) : windowValue m p 0 = 0 := rfl

/-- One bit further: the earlier bits gain a factor of two. -/
theorem windowValue_succ (m : Cells 1) (p n : Nat) :
    windowValue m p (n + 1) = 2 * windowValue m p n + bitAt m (p + n) := by
  have hdouble : ∀ k ∈ List.range n,
      bitAt m (p + k) * 2 ^ (n + 1 - 1 - k) = 2 * (bitAt m (p + k) * 2 ^ (n - 1 - k)) := by
    intro k hk
    have hexp : n + 1 - 1 - k = n - 1 - k + 1 := by
      have := List.mem_range.1 hk
      omega
    rw [hexp, pow_succ]
    ring
  unfold windowValue
  rw [List.range_succ, List.map_append, List.sum_append, List.map_congr_left hdouble,
    List.sum_map_mul_left]
  simp

theorem windowValue_lt (m : Cells 1) (p n : Nat) : windowValue m p n < 2 ^ n := by
  induction n with
  | zero => simp
  | succ n ih =>
    have := bitAt_lt_two m (p + n)
    rw [windowValue_succ, pow_succ]
    omega

/-- A window cut in two: the first part counts above the second. -/
theorem windowValue_add (m : Cells 1) (p a b : Nat) :
    windowValue m p (a + b) = windowValue m p a * 2 ^ b + windowValue m (p + a) b := by
  induction b with
  | zero => simp
  | succ b ih =>
    rw [← Nat.add_assoc, windowValue_succ, windowValue_succ, ih, pow_succ, Nat.add_assoc]
    ring

/-- The last `b` bits of a window are what is left of it below `2 ^ b`. -/
theorem windowValue_add_mod (m : Cells 1) (p a b : Nat) :
    windowValue m p (a + b) % 2 ^ b = windowValue m (p + a) b := by
  rw [windowValue_add, Nat.mul_add_mod_self_right, Nat.mod_eq_of_lt (windowValue_lt m (p + a) b)]

/-! ### The accumulator -/

theorem width_bounds_of_wf {F : Descriptor} (hF : F.wf = true) : 2 ≤ F.width ∧ F.width ≤ 8 := by
  obtain ⟨hlow, hhigh, -, -, -, -⟩ := (Descriptor.wf_iff F).1 hF
  exact ⟨hlow, hhigh⟩

/-- A bit shifted in below a value that is kept to `k` bits. -/
theorem two_mul_add_mod_pow_succ {b : Nat} (hb : b < 2) (a k : Nat) :
    (2 * a + b) % 2 ^ (k + 1) = 2 * (a % 2 ^ k) + b := by
  have hlow : (2 * a + b) % 2 = b := by omega
  have hhigh : (2 * a + b) / 2 = a := by omega
  rw [pow_succ', Nat.mod_mul, hlow, hhigh, Nat.add_comm]

/-- The update of R14 (a) as arithmetic, for a mask of `F.W` ones. -/
theorem accUpdate_toNat {F : Descriptor} (hF : F.wf = true) (acc : BitVec 8) (b : Bit) :
    (accUpdate F acc b).toNat = (2 * acc.toNat + b.toNat) % 2 ^ F.width := by
  obtain ⟨hlow, hhigh, hmask, -, -, -⟩ := (Descriptor.wf_iff F).1 hF
  obtain ⟨w, hw⟩ : ∃ w, F.width = w + 1 := ⟨F.width - 1, by omega⟩
  have hb : b.toNat < 2 := b.isLt
  have hdvd : 2 ^ F.width ∣ 2 ^ 8 := pow_dvd_pow 2 hhigh
  have hshift : ((acc <<< 1) &&& F.mask).toNat = 2 * (acc.toNat % 2 ^ w) := by
    rw [BitVec.toNat_and, hmask, Nat.and_two_pow_sub_one_eq_mod, BitVec.toNat_shiftLeft,
      Nat.shiftLeft_eq, Nat.mod_mod_of_dvd _ hdvd, hw, Nat.mul_comm]
    exact two_mul_add_mod_pow_succ Nat.two_pos acc.toNat w
  have hbit : (b.setWidth 8).toNat = b.toNat := by
    rw [BitVec.toNat_setWidth]
    omega
  have hor : 2 * (acc.toNat % 2 ^ w) ||| b.toNat = 2 * (acc.toNat % 2 ^ w) + b.toNat := by
    simpa using (Nat.two_pow_add_eq_or_of_lt (i := 1) (b := b.toNat) (by omega) (acc.toNat % 2 ^ w)).symm
  unfold accUpdate
  rw [BitVec.toNat_or, hshift, hbit, hor, hw, two_mul_add_mod_pow_succ hb]

end Sys2Proof.Machine
end

section
/-! SUPPORT. What `FIND` has found (R140 to R143): a window of the buffer that spells the start sentinel. -/

namespace Sys2Proof.Machine

/-- `FIND` before the bit at `IDX`, `n` bits before `LEN`: the accumulator holds the bits read so far, as many
as fit it. -/
structure Scanned (F : Descriptor) (n : Nat) (s : State) : Prop where
  value : s.acc.toNat = windowValue s.bits 0 s.idx.toNat % 2 ^ F.width
  left  : s.idx.toNat + n = s.len.toNat

/-- A window of the buffer spells the start sentinel. -/
def SentinelAtStart (F : Descriptor) (s : State) : Prop :=
  s.start.toNat + F.width ≤ s.len.toNat ∧
  windowValue s.bits s.start.toNat F.width = F.pattern.toNat

theorem scanned_beginScan (F : Descriptor) (s : State) : Scanned F s.len.toNat (beginScan s) where
  value := by simp
  left := by simp

/-- The accumulator after the bit at `IDX` holds one bit more. -/
theorem Scanned.value_next {F : Descriptor} (hF : F.wf = true) {n : Nat} {s : State}
    (h : Scanned F n s) {b : Bit} (hb : bitRead s s.idx.toNat = .ok b) :
    (accUpdate F s.acc b).toNat = windowValue s.bits 0 (s.idx.toNat + 1) % 2 ^ F.width := by
  obtain ⟨-, hread⟩ := bitRead_eq_ok.1 hb
  rw [accUpdate_toNat hF, h.value, windowValue_succ, Nat.zero_add, bitAt_of_read? hread]
  simp [Nat.add_mod, Nat.mul_mod]

theorem Scanned.after_scanOn {F : Descriptor} (hF : F.wf = true) {n : Nat} {s : State}
    (h : Scanned F (n + 1) s) {b : Bit} (hb : bitRead s s.idx.toNat = .ok b) :
    Scanned F n (scanOn (accUpdate F s.acc b) s) := by
  obtain ⟨hlt, -⟩ := bitRead_eq_ok.1 hb
  have hidx := toNat_add_one_of_lt hlt
  have hleft := h.left
  exact ⟨by rw [scanOn_acc, scanOn_bits, scanOn_idx, hidx, h.value_next hF hb],
    by rw [scanOn_idx, hidx, scanOn_len]; omega⟩

/-- A match comes after at least `F.W` bits, since the top bit of the pattern is 1 (R11), and the last `F.W`
of them are the sentinel. -/
theorem Scanned.sentinel_of_match {F : Descriptor} (hF : F.wf = true) {n : Nat} {s : State}
    (h : Scanned F (n + 1) s) {b : Bit} (hb : bitRead s s.idx.toNat = .ok b)
    (hmatch : accUpdate F s.acc b = F.pattern) :
    SentinelAtStart F (foundHere F (accUpdate F s.acc b) s) := by
  obtain ⟨hlow, hhigh, -, htop, -, -⟩ := (Descriptor.wf_iff F).1 hF
  have hvalue := h.value_next hF hb
  rw [hmatch] at hvalue
  have hpattern : 2 ^ (F.width - 1) ≤ F.pattern.toNat := Nat.ge_two_pow_of_testBit htop
  have hwide : F.width ≤ s.idx.toNat + 1 := by
    by_contra hshort
    have hpow : 2 ^ (s.idx.toNat + 1) ≤ 2 ^ (F.width - 1) :=
      Nat.pow_le_pow_right Nat.two_pos (by omega)
    have hmod := Nat.mod_le (windowValue s.bits 0 (s.idx.toNat + 1)) (2 ^ F.width)
    have hbits := windowValue_lt s.bits 0 (s.idx.toNat + 1)
    omega
  have hstart : (s.idx - BitVec.ofNat 16 (F.width - 1)).toNat = s.idx.toNat + 1 - F.width := by
    have hsmall : (BitVec.ofNat 16 (F.width - 1)).toNat = F.width - 1 := by
      rw [BitVec.toNat_ofNat]
      omega
    rw [BitVec.toNat_sub_of_le (BitVec.le_def.2 (by omega)), hsmall]
    omega
  have hsplit : windowValue s.bits 0 (s.idx.toNat + 1) % 2 ^ F.width =
      windowValue s.bits (s.idx.toNat + 1 - F.width) F.width := by
    have h1 := windowValue_add_mod s.bits 0 (s.idx.toNat + 1 - F.width) F.width
    rwa [Nat.sub_add_cancel hwide, Nat.zero_add] at h1
  have hleft := h.left
  refine ⟨?_, ?_⟩
  · rw [foundHere_start, hstart, foundHere_len]
    omega
  · rw [foundHere_start, hstart, foundHere_bits, ← hsplit, hvalue]

theorem findLoop_found {F : Descriptor} (hF : F.wf = true) {n : Nat} {s t : State}
    (h : Scanned F n s) (hfind : findLoop F n s = .ok t) (hfound : t.startFound = true) :
    SentinelAtStart F t := by
  induction n generalizing s with
  | zero =>
    cases hfind
    cases hfound
  | succ n ih =>
    obtain ⟨b, hb, ⟨hmatch, rfl⟩ | ⟨-, hrest⟩⟩ := findLoop_succ hfind
    · exact h.sentinel_of_match hF hb hmatch
    · exact ih (h.after_scanOn hF hb) hrest

/-- What `FIND` finds is a start sentinel inside the buffer (R140, R143). -/
theorem find_found {F : Descriptor} (hF : F.wf = true) {s t : State} (hfind : find F s = .ok t)
    (hfound : t.startFound = true) : SentinelAtStart F t :=
  findLoop_found hF (scanned_beginScan F s) hfind hfound

end Sys2Proof.Machine
end

section
/-! SUPPORT. The run the Character Demodulator reads (R150 to R162): where it stands in the buffer, what the
accumulator and `OUT` hold of it, and how it ends. -/

namespace Sys2Proof.Machine

/-! ### Where the run stands -/

/-- The demodulator stands `BITCNT` bits into symbol `CNT` of the run (R37, R65, R156, R160): the part of
`RunInv` that speaks of the registers, for any descriptor. -/
structure RunPosition (F : Descriptor) (s : State) : Prop where
  position : s.idx.toNat = s.start.toNat + s.cnt.toNat * F.width + s.bitcnt.toNat
  inBuffer : s.idx.toNat ≤ s.len.toNat
  gathered : s.bitcnt.toNat < F.width
  limit    : s.cnt ≤ s.sizeLimit
  chars    : ∀ j, j < s.cnt.toNat → (Memory.read? s.out j).isSome = true

/-- Symbol `CNT` of the run has been read, and nothing has been done with it. -/
structure SymbolRead (F : Descriptor) (s : State) : Prop where
  position : s.idx.toNat = s.start.toNat + (s.cnt.toNat + 1) * F.width
  inBuffer : s.idx.toNat ≤ s.len.toNat
  boundary : s.bitcnt = 0
  limit    : s.cnt ≤ s.sizeLimit
  chars    : ∀ j, j < s.cnt.toNat → (Memory.read? s.out j).isSome = true

/-- Storing a character leaves the written cells written. -/
theorem isSome_read?_write {w : Nat} {m : Cells w} {i j : Nat} {v : BitVec w}
    (h : j = i ∨ (Memory.read? m j).isSome = true) :
    (Memory.read? (Memory.write m i v) j).isSome = true := by
  rw [Memory.read?_write]
  split
  · rfl
  · exact h.resolve_left ‹_›

theorem RunPosition.after_beginDemod {F : Descriptor} (hwidth : 0 < F.width) {s : State}
    (h : s.start.toNat ≤ s.len.toNat) : RunPosition F (beginDemod s) where
  position := by simp
  inBuffer := by simpa using h
  gathered := by simpa using hwidth
  limit := BitVec.le_def.2 (Nat.zero_le _)
  chars := by simp

/-- A bit that completes no symbol. -/
theorem RunPosition.after_gatherOn {F : Descriptor} (hwidth : F.width ≤ 8) {s : State}
    (h : RunPosition F s) (hlt : s.idx.toNat < s.len.toNat) (hw : s.bitcnt.toNat + 1 ≠ F.width)
    (acc : BitVec 8) : RunPosition F (gatherOn acc s) := by
  have hgathered := h.gathered
  have hbitcnt : (s.bitcnt + 1).toNat = s.bitcnt.toNat + 1 := toNat_add_one (by omega)
  have hidx := toNat_add_one_of_lt hlt
  refine ⟨?_, ?_, ?_, h.limit, h.chars⟩
  · rw [gatherOn_idx, gatherOn_bitcnt, hidx, hbitcnt, h.position]
    rfl
  · rw [gatherOn_idx, hidx]
    exact hlt
  · rw [gatherOn_bitcnt, hbitcnt]
    omega

/-- The bit that completes symbol `CNT`. -/
theorem RunPosition.after_symbolComplete {F : Descriptor} {s : State} (h : RunPosition F s)
    (hlt : s.idx.toNat < s.len.toNat) (hw : s.bitcnt.toNat + 1 = F.width) (acc : BitVec 8) :
    SymbolRead F (symbolComplete acc s) := by
  have hidx := toNat_add_one_of_lt hlt
  refine ⟨?_, ?_, rfl, h.limit, h.chars⟩
  · rw [symbolComplete_idx, hidx, h.position, Nat.add_assoc, hw, Nat.add_assoc, ← Nat.succ_mul]
    rfl
  · rw [symbolComplete_idx, hidx]
    exact hlt

theorem RunPosition.of_shiftIn_false {F : Descriptor} (hwidth : F.width ≤ 8) {s u : State}
    (h : RunPosition F s) (hshift : shiftIn F s = .ok (u, false)) : RunPosition F u := by
  obtain ⟨b, hb, ⟨-, hc, -⟩ | ⟨hw, -, rfl⟩⟩ := shiftIn_cases hshift
  · cases hc
  · exact h.after_gatherOn hwidth (bitRead_eq_ok.1 hb).1 hw _

theorem RunPosition.of_shiftIn_true {F : Descriptor} {s u : State} (h : RunPosition F s)
    (hshift : shiftIn F s = .ok (u, true)) : SymbolRead F u := by
  obtain ⟨b, hb, ⟨hw, -, rfl⟩ | ⟨-, hc, -⟩⟩ := shiftIn_cases hshift
  · exact h.after_symbolComplete (bitRead_eq_ok.1 hb).1 hw _
  · cases hc

/-- A character is written and counted, and the next symbol begins. -/
theorem SymbolRead.after_character {F : Descriptor} (hwidth : 0 < F.width) {s : State}
    (h : SymbolRead F s) (hlimit : s.cnt < s.sizeLimit) (ch : Char8) :
    RunPosition F (countChar (outWriteAtCnt s ch)) := by
  have hcnt := toNat_add_one_of_lt (BitVec.lt_def.1 hlimit)
  refine ⟨?_, h.inBuffer, ?_, ?_, ?_⟩
  · rw [countChar_idx, outWriteAtCnt_idx, h.position, countChar_cnt, outWriteAtCnt_cnt, hcnt,
      countChar_bitcnt, outWriteAtCnt_bitcnt, h.boundary]
    rfl
  · simpa [h.boundary] using hwidth
  · have := BitVec.lt_def.1 hlimit
    exact BitVec.le_def.2 (by rw [countChar_cnt, outWriteAtCnt_cnt, hcnt]; exact this)
  · intro j hj
    rw [countChar_cnt, outWriteAtCnt_cnt, hcnt] at hj
    refine isSome_read?_write ?_
    rcases Nat.lt_succ_iff_lt_or_eq.1 hj with hlt | heq
    · exact .inr (h.chars j hlt)
    · exact .inl heq

/-- Only a legal symbol with room below `SIZE_LIMIT` lets the demodulator go on. -/
theorem demodSymbol_go {F : Descriptor} {sym : BitVec 8} {s v : State}
    (h : demodSymbol F sym s = (v, .go)) :
    sym ≠ 0 ∧ parityOk sym = true ∧ s.cnt < s.sizeLimit ∧
      ∃ ch, F.map sym = some ch ∧ v = countChar (outWriteAtCnt s ch) := by
  rcases demodSymbol_cases F sym s with
    ⟨-, h'⟩ | ⟨-, -, h'⟩ | ⟨-, -, -, h'⟩ | ⟨-, -, -, -, h'⟩ | ⟨h0, hp, hlt, ch, hmap, h'⟩
  case inr.inr.inr.inr =>
    rw [h'] at h
    cases h
    exact ⟨h0, hp, hlt, ch, hmap, rfl⟩
  all_goals
    rw [h'] at h
    cases h

/-- Only the null symbol stops the loop without an error, and it changes nothing. -/
theorem demodSymbol_stop {F : Descriptor} {sym : BitVec 8} {s v : State}
    (h : demodSymbol F sym s = (v, .stop)) : sym = 0 ∧ v = s := by
  rcases demodSymbol_cases F sym s with
    ⟨h0, h'⟩ | ⟨-, -, h'⟩ | ⟨-, -, -, h'⟩ | ⟨-, -, -, -, h'⟩ | ⟨-, -, -, ch, -, h'⟩
  case inl =>
    rw [h'] at h
    cases h
    exact ⟨h0, rfl⟩
  all_goals
    rw [h'] at h
    cases h

/-- The errors of `DEMOD` (R153, R155, R156). They change nothing. -/
theorem demodSymbol_raised {F : Descriptor} {sym : BitVec 8} {s v : State} {e : ErrCode} {info : Nat}
    (h : demodSymbol F sym s = (v, .raised e info)) :
    (e = .symbolParityError ∨ e = .invalidSymbol ∨ e = .outputBufferTooSmall) ∧ v = s := by
  rcases demodSymbol_cases F sym s with
    ⟨-, h'⟩ | ⟨-, -, h'⟩ | ⟨-, -, -, h'⟩ | ⟨-, -, -, -, h'⟩ | ⟨-, -, -, ch, -, h'⟩
  all_goals
    rw [h'] at h
    cases h
  · exact ⟨.inl rfl, rfl⟩
  · exact ⟨.inr (.inl rfl), rfl⟩
  · exact ⟨.inr (.inr rfl), rfl⟩

theorem SymbolRead.of_demodSymbol_go {F : Descriptor} (hwidth : 0 < F.width) {sym : BitVec 8}
    {s v : State} (h : SymbolRead F s) (hgo : demodSymbol F sym s = (v, .go)) : RunPosition F v := by
  obtain ⟨-, -, hlimit, ch, -, rfl⟩ := demodSymbol_go hgo
  exact h.after_character hwidth hlimit ch

/-! ### What the run holds -/

/-- The first `n` symbols of the run are legal, and their characters stand in `OUT` (R160). -/
def LegalSymbols (F : Descriptor) (s : State) (n : Nat) : Prop :=
  ∀ k, k < n → symbolAt F s k ≠ 0 ∧ parityOk (symbolAt F s k) = true ∧
    ∃ ch, F.map (symbolAt F s k) = some ch ∧ Memory.read? s.out k = some ch

/-- The accumulator holds the `BITCNT` bits of symbol `CNT` that have been read, above them whatever an
earlier symbol left (R95), and the symbols before it are legal. -/
structure RunContent (F : Descriptor) (s : State) : Prop where
  bits  : s.acc.toNat % 2 ^ s.bitcnt.toNat =
    windowValue s.bits (s.start.toNat + s.cnt.toNat * F.width) s.bitcnt.toNat
  legal : LegalSymbols F s s.cnt.toNat

theorem RunContent.after_beginDemod (F : Descriptor) (s : State) : RunContent F (beginDemod s) where
  bits := by simp
  legal := by intro k hk; simp at hk

/-- The accumulator's low bits after the bit at `IDX`: one bit more of symbol `CNT`. -/
theorem RunContent.bits_next {F : Descriptor} (hF : F.wf = true) {s : State} (hpos : RunPosition F s)
    (h : RunContent F s) {b : Bit} (hb : bitRead s s.idx.toNat = .ok b) :
    (accUpdate F s.acc b).toNat % 2 ^ (s.bitcnt.toNat + 1) =
      windowValue s.bits (s.start.toNat + s.cnt.toNat * F.width) (s.bitcnt.toNat + 1) := by
  have hdvd : 2 ^ (s.bitcnt.toNat + 1) ∣ 2 ^ F.width := pow_dvd_pow 2 hpos.gathered
  have hread := (bitRead_eq_ok.1 hb).2
  rw [hpos.position] at hread
  rw [accUpdate_toNat hF, Nat.mod_mod_of_dvd _ hdvd, two_mul_add_mod_pow_succ b.isLt, h.bits,
    windowValue_succ, bitAt_of_read? hread]

theorem RunContent.of_shiftIn_false {F : Descriptor} (hF : F.wf = true) {s u : State}
    (hpos : RunPosition F s) (h : RunContent F s) (hshift : shiftIn F s = .ok (u, false)) :
    RunContent F u := by
  obtain ⟨-, hhigh⟩ := width_bounds_of_wf hF
  obtain ⟨b, hb, ⟨-, hc, -⟩ | ⟨hw, -, rfl⟩⟩ := shiftIn_cases hshift
  · cases hc
  · have hgathered := hpos.gathered
    have hbitcnt : (s.bitcnt + 1).toNat = s.bitcnt.toNat + 1 := toNat_add_one (by omega)
    refine ⟨?_, h.legal⟩
    rw [gatherOn_acc, gatherOn_bitcnt, hbitcnt]
    exact h.bits_next hF hpos hb

/-- A completed symbol stands in the accumulator as R63 spells it. -/
theorem RunContent.of_shiftIn_true {F : Descriptor} (hF : F.wf = true) {s u : State}
    (hpos : RunPosition F s) (h : RunContent F s) (hshift : shiftIn F s = .ok (u, true)) :
    u.acc = symbolAt F u u.cnt.toNat ∧ LegalSymbols F u u.cnt.toNat := by
  obtain ⟨b, hb, ⟨hw, -, rfl⟩ | ⟨-, hc, -⟩⟩ := shiftIn_cases hshift
  · refine ⟨?_, h.legal⟩
    have hbits := h.bits_next hF hpos hb
    rw [hw, accUpdate_toNat hF, Nat.mod_mod, ← accUpdate_toNat hF] at hbits
    exact BitVec.eq_of_toNat_eq (by
      rw [symbolAt, symbolComplete_acc, BitVec.toNat_ofNat, ← Nat.mod_eq_of_lt (accUpdate F s.acc b).isLt,
        hbits]
      rfl)
  · cases hc

/-- A legal symbol joins the run with its character. -/
theorem LegalSymbols.of_demodSymbol_go {F : Descriptor} {s v : State}
    (h : LegalSymbols F s s.cnt.toNat)
    (hgo : demodSymbol F (symbolAt F s s.cnt.toNat) s = (v, .go)) : LegalSymbols F v v.cnt.toNat := by
  obtain ⟨h0, hparity, hlimit, ch, hmap, rfl⟩ := demodSymbol_go hgo
  intro k hk
  rw [countChar_cnt, outWriteAtCnt_cnt, toNat_add_one_of_lt (BitVec.lt_def.1 hlimit)] at hk
  rcases Nat.lt_succ_iff_lt_or_eq.1 hk with hlt | rfl
  · obtain ⟨hk0, hkparity, c, hkmap, hkout⟩ := h k hlt
    exact ⟨hk0, hkparity, c, hkmap, (Memory.read?_write_other _ _ (Nat.ne_of_lt hlt)).trans hkout⟩
  · exact ⟨h0, hparity, ch, hmap, Memory.read?_write_same _ _ _⟩

theorem RunContent.of_demodSymbol_go {F : Descriptor} {s v : State} (hboundary : s.bitcnt = 0)
    (h : LegalSymbols F s s.cnt.toNat)
    (hgo : demodSymbol F (symbolAt F s s.cnt.toNat) s = (v, .go)) : RunContent F v := by
  refine ⟨?_, h.of_demodSymbol_go hgo⟩
  obtain ⟨-, -, -, ch, -, rfl⟩ := demodSymbol_go hgo
  simp [hboundary, Nat.mod_one]

/-! ### How the loop ends -/

/-- Reasoning by the turns of `DEMOD`'s loop: what holds before every bit, `n` bits before `LEN`, gives what
holds at each of the three ends. -/
theorem demodLoop_induction {F : Descriptor} {P : Nat → State → Prop}
    {Q : State → AttemptResult → Prop}
    (atEnd : ∀ s, P 0 s → Q (terminate s) (.ok s.cnt))
    (onBit : ∀ n s u, P (n + 1) s → shiftIn F s = .ok (u, false) → P n u)
    (onGo : ∀ n s u v, P (n + 1) s → shiftIn F s = .ok (u, true) →
      demodSymbol F u.acc u = (v, .go) → P n v)
    (onStop : ∀ n s u v, P (n + 1) s → shiftIn F s = .ok (u, true) →
      demodSymbol F u.acc u = (v, .stop) → Q (terminate v) (.ok v.cnt))
    (onRaised : ∀ n s u v e info, P (n + 1) s → shiftIn F s = .ok (u, true) →
      demodSymbol F u.acc u = (v, .raised e info) → Q v (.err e info))
    {n : Nat} {s t : State} {r : AttemptResult} (h : P n s) (hloop : demodLoop F n s = .ok (t, r)) :
    Q t r := by
  induction n generalizing s with
  | zero =>
    cases hloop
    exact atEnd s h
  | succ n ih =>
    rcases demodLoop_succ hloop with ⟨u, hu, hrest⟩ | ⟨u, v, turn, hu, hv, hend⟩
    · exact ih (onBit n s u h hu) hrest
    · rcases hend with ⟨rfl, hrest⟩ | ⟨rfl, rfl, rfl⟩ | ⟨e, info, rfl, rfl, rfl⟩
      · exact ih (onGo n s u v h hu hv) hrest
      · exact onStop n s u v h hu hv
      · exact onRaised n s u t e info h hu hv

/-- A run that has ended without an error (R160): its symbols are legal and inside the buffer, the
terminator follows its characters, and a null symbol or the end of the buffer follows its symbols. -/
structure EndedRun (F : Descriptor) (t : State) : Prop where
  inside     : t.start.toNat + t.cnt.toNat * F.width ≤ t.len.toNat
  limit      : t.cnt ≤ t.sizeLimit
  legal      : LegalSymbols F t t.cnt.toNat
  terminator : Memory.read? t.out t.cnt.toNat = some 0x00
  ended      : symbolAt F t t.cnt.toNat = 0 ∨
    t.len.toNat < t.start.toNat + (t.cnt.toNat + 1) * F.width

theorem EndedRun.chars {F : Descriptor} {t : State} (h : EndedRun F t) :
    ∀ j, j < t.cnt.toNat → (Memory.read? t.out j).isSome = true := by
  intro j hj
  obtain ⟨-, -, ch, -, hread⟩ := h.legal j hj
  simp [hread]

/-- Storing the terminator moves no character of the run. -/
theorem LegalSymbols.after_terminate {F : Descriptor} {s : State}
    (h : LegalSymbols F s s.cnt.toNat) : LegalSymbols F (terminate s) (terminate s).cnt.toNat := by
  intro k hk
  obtain ⟨h0, hparity, ch, hmap, hread⟩ := h k hk
  exact ⟨h0, hparity, ch, hmap, (Memory.read?_write_other _ _ (Nat.ne_of_lt hk)).trans hread⟩

/-- A bit read from the buffer: `IDX` was below `LEN`, and moves one on. -/
theorem shiftIn_moves {F : Descriptor} {s u : State} {c : Bool} (h : shiftIn F s = .ok (u, c)) :
    s.idx.toNat < s.len.toNat ∧ u.idx.toNat = s.idx.toNat + 1 ∧ u.len = s.len := by
  obtain ⟨b, hb, ⟨-, -, rfl⟩ | ⟨-, -, rfl⟩⟩ := shiftIn_cases h
  all_goals
    have hlt := (bitRead_eq_ok.1 hb).1
    exact ⟨hlt, toNat_add_one_of_lt hlt, rfl⟩

/-- `DEMOD` before a bit of the run, `n` bits before `LEN`. -/
structure RunState (F : Descriptor) (n : Nat) (s : State) : Prop where
  position : RunPosition F s
  content  : RunContent F s
  left     : s.idx.toNat + n = s.len.toNat

theorem RunState.after_beginDemod {F : Descriptor} (hF : F.wf = true) {s : State}
    (hstart : s.start.toNat ≤ s.len.toNat) :
    RunState F (s.len.toNat - s.start.toNat) (beginDemod s) := by
  obtain ⟨hlow, -⟩ := width_bounds_of_wf hF
  refine ⟨.after_beginDemod (by omega) hstart, .after_beginDemod F s, ?_⟩
  rw [beginDemod_idx, beginDemod_len]
  omega

theorem RunState.of_shiftIn_false {F : Descriptor} (hF : F.wf = true) {n : Nat} {s u : State}
    (h : RunState F (n + 1) s) (hshift : shiftIn F s = .ok (u, false)) : RunState F n u := by
  obtain ⟨-, hhigh⟩ := width_bounds_of_wf hF
  obtain ⟨-, hidx, hlen⟩ := shiftIn_moves hshift
  refine ⟨h.position.of_shiftIn_false hhigh hshift,
    h.content.of_shiftIn_false hF h.position hshift, ?_⟩
  rw [hidx, hlen, ← h.left]
  omega

theorem RunState.of_demodSymbol_go {F : Descriptor} (hF : F.wf = true) {n : Nat} {s u v : State}
    (h : RunState F (n + 1) s) (hshift : shiftIn F s = .ok (u, true))
    (hgo : demodSymbol F u.acc u = (v, .go)) : RunState F n v := by
  obtain ⟨hlow, -⟩ := width_bounds_of_wf hF
  obtain ⟨-, hidx, hlen⟩ := shiftIn_moves hshift
  obtain ⟨hacc, hlegal⟩ := h.content.of_shiftIn_true hF h.position hshift
  have hread := h.position.of_shiftIn_true hshift
  refine ⟨hread.of_demodSymbol_go (by omega) hgo, ?_, ?_⟩
  · rw [hacc] at hgo
    exact .of_demodSymbol_go hread.boundary hlegal hgo
  · obtain ⟨-, -, -, ch, -, rfl⟩ := demodSymbol_go hgo
    rw [countChar_idx, outWriteAtCnt_idx, countChar_len, outWriteAtCnt_len, hidx, hlen, ← h.left]
    omega

/-- At `LEN` the bits of an incomplete symbol are dropped (R159). -/
theorem RunState.ended_at_len {F : Descriptor} {s : State} (h : RunState F 0 s) :
    EndedRun F (terminate s) := by
  have hposition := h.position.position
  have hgathered := h.position.gathered
  have hleft := h.left
  refine ⟨?_, h.position.limit, h.content.legal.after_terminate, Memory.read?_write_same _ _ _, .inr ?_⟩
  · rw [terminate_start, terminate_cnt, terminate_len]
    omega
  · rw [terminate_start, terminate_cnt, terminate_len, Nat.succ_mul]
    omega

/-- The null symbol ends the run before it (R152). -/
theorem RunState.ended_at_null {F : Descriptor} (hF : F.wf = true) {n : Nat} {s u v : State}
    (h : RunState F (n + 1) s) (hshift : shiftIn F s = .ok (u, true))
    (hstop : demodSymbol F u.acc u = (v, .stop)) : EndedRun F (terminate v) := by
  obtain ⟨hacc, hlegal⟩ := h.content.of_shiftIn_true hF h.position hshift
  have hread := h.position.of_shiftIn_true hshift
  obtain ⟨hzero, rfl⟩ := demodSymbol_stop hstop
  refine ⟨?_, hread.limit, hlegal.after_terminate, Memory.read?_write_same _ _ _,
    .inl (hacc.symm.trans hzero)⟩
  have hposition := hread.position
  have hbuffer := hread.inBuffer
  rw [Nat.succ_mul] at hposition
  rw [terminate_start, terminate_cnt, terminate_len]
  omega

/-- When `DEMOD` answers `ok(CNT)`, the run has ended at `CNT` symbols (R158, R159, R160). -/
theorem demod_ok {F : Descriptor} (hF : F.wf = true) {s t : State} {c : BitVec 8}
    (hstart : s.start.toNat ≤ s.len.toNat) (h : demod F s = .ok (t, .ok c)) :
    c = t.cnt ∧ EndedRun F t :=
  demodLoop_induction (P := RunState F) (Q := fun t r => ∀ c, r = .ok c → c = t.cnt ∧ EndedRun F t)
    (fun _ hs c hc => by cases hc; exact ⟨rfl, hs.ended_at_len⟩)
    (fun _ _ _ hs hshift => hs.of_shiftIn_false hF hshift)
    (fun _ _ _ _ hs hshift hgo => hs.of_demodSymbol_go hF hshift hgo)
    (fun _ _ _ _ hs hshift hstop c hc => by cases hc; exact ⟨rfl, hs.ended_at_null hF hshift hstop⟩)
    (fun _ _ _ _ _ _ _ _ _ c hc => by cases hc)
    (RunState.after_beginDemod hF hstart) h c rfl

/-- The errors `DEMOD` can raise (R153, R155, R156). -/
theorem demod_err {F : Descriptor} {s t : State} {e : ErrCode} {info : Nat}
    (h : demod F s = .ok (t, .err e info)) :
    e = .symbolParityError ∨ e = .invalidSymbol ∨ e = .outputBufferTooSmall :=
  demodLoop_induction (P := fun _ _ => True)
    (Q := fun _ r => ∀ e info, r = .err e info →
      e = .symbolParityError ∨ e = .invalidSymbol ∨ e = .outputBufferTooSmall)
    (fun _ _ _ _ hr => by cases hr)
    (fun _ _ _ _ _ => trivial)
    (fun _ _ _ _ _ _ _ => trivial)
    (fun _ _ _ _ _ _ _ _ _ hr => by cases hr)
    (fun _ _ _ _ _ _ _ _ hraised _ _ hr => by cases hr; exact (demodSymbol_raised hraised).1)
    trivial h e info rfl

end Sys2Proof.Machine
end

section
/-! SUPPORT. What the validator and a whole attempt answer: the record of an attempt that succeeds (R160, R171,
R181), the errors of one that fails, and that over a readable buffer each stage answers (R72). -/

namespace Sys2Proof.Machine

theorem descriptorOf_endChar (fmt : Format) : (descriptorOf fmt).endChar = 0x3F := by
  cases fmt <;> rfl

/-! ### The validator's answer -/

theorem endchk_raised {F : Descriptor} {s : State} {e : ErrCode} {info : Nat}
    (h : endchk F s = .ok (.raised e info)) : e = .malformedTerminator := by
  rcases endchk_cases h with ⟨-, hc⟩ | ⟨ch, -, -, ⟨-, hc⟩ | ⟨-, hc⟩⟩ <;> cases hc <;> rfl

theorem endchk_pass {F : Descriptor} {s : State} (h : endchk F s = .ok .pass) :
    2 ≤ s.cnt.toNat ∧ Memory.read? s.out (s.cnt.toNat - 2) = some F.endChar := by
  rcases endchk_cases h with ⟨-, hc⟩ | ⟨ch, htwo, hread, ⟨rfl, -⟩ | ⟨-, hc⟩⟩
  · cases hc
  · exact ⟨htwo, (outRead_eq_ok.1 hread).2⟩
  · cases hc

theorem lrcFrom_raised {F : Descriptor} {s : State} {e : ErrCode} {info c n : Nat}
    (h : lrcFrom F s c n = .ok (.raised e info)) : e = .longitudinalParityError := by
  induction n generalizing c with
  | zero => cases h
  | succ n ih =>
    obtain ⟨sum, -, ⟨-, hk⟩ | ⟨-, hrest⟩⟩ := lrcFrom_succ h
    · cases hk
      rfl
    · exact ih hrest

/-- The validator accepts `CNT` characters with the end sentinel in the second-to-last place (R171). -/
theorem validate_ok {F : Descriptor} {s : State} {c : BitVec 8} (h : validate F s = .ok (.ok c)) :
    c = s.cnt ∧ 2 ≤ s.cnt.toNat ∧ Memory.read? s.out (s.cnt.toNat - 2) = some F.endChar := by
  rcases validate_cases h with ⟨e, info, -, hr⟩ | ⟨-, e, info, -, hr⟩ | ⟨hend, -, hr⟩
  · cases hr
  · cases hr
  · cases hr
    exact ⟨rfl, endchk_pass hend⟩

theorem validate_err {F : Descriptor} {s : State} {e : ErrCode} {info : Nat}
    (h : validate F s = .ok (.err e info)) :
    e = .malformedTerminator ∨ e = .longitudinalParityError := by
  rcases validate_cases h with ⟨e', info', hend, hr⟩ | ⟨-, e', info', hlrc, hr⟩ | ⟨-, -, hr⟩
  · cases hr
    exact .inl (endchk_raised hend)
  · cases hr
    exact .inr (lrcFrom_raised hlrc)
  · cases hr

/-! ### The attempt's answer -/

theorem SameButWork.buffer {s t : State} (h : SameButWork s t) :
    t.bits = s.bits ∧ t.len = s.len ∧ t.fmt = s.fmt ∧ t.sizeLimit = s.sizeLimit ∧ t.cfg = s.cfg := by
  unfold SameButWork at h
  rw [h]
  exact ⟨rfl, rfl, rfl, rfl, rfl⟩

/-- `DEMOD` keeps the offset `FIND` has answered. -/
theorem demod_start {F : Descriptor} {s t : State} {r : AttemptResult}
    (h : demod F s = .ok (t, r)) : t.start = s.start := by
  have hshift : ∀ {u v : State} {c : Bool}, shiftIn F u = .ok (v, c) → v.start = u.start := by
    intro u v c hv
    obtain ⟨b, -, ⟨-, -, rfl⟩ | ⟨-, -, rfl⟩⟩ := shiftIn_cases hv <;> rfl
  exact demodLoop_induction (P := fun _ u => u.start = s.start) (Q := fun u _ => u.start = s.start)
    (fun _ hu => hu)
    (fun _ _ _ hu hv => (hshift hv).trans hu)
    (fun _ _ _ _ hu hv hgo => by
      obtain ⟨-, -, -, ch, -, rfl⟩ := demodSymbol_go hgo
      exact (hshift hv).trans hu)
    (fun _ _ _ _ hu hv hstop => by
      obtain ⟨-, rfl⟩ := demodSymbol_stop hstop
      exact (hshift hv).trans hu)
    (fun _ _ _ _ _ _ hu hv hraised => by
      obtain ⟨-, rfl⟩ := demodSymbol_raised hraised
      exact (hshift hv).trans hu)
    (show (beginDemod s).start = s.start from rfl) h

theorem SentinelAtStart.start_le_len {F : Descriptor} {s : State} (h : SentinelAtStart F s) :
    s.start.toNat ≤ s.len.toNat :=
  (Nat.le_add_right _ _).trans h.1

theorem SentinelAtStart.after_demod {F : Descriptor} {s t : State} {r : AttemptResult}
    (h : SentinelAtStart F s) (hdemod : demod F s = .ok (t, r)) : SentinelAtStart F t := by
  obtain ⟨hbits, hlen, -, -, -⟩ := (demod_frame hdemod).buffer
  obtain ⟨hinside, hwindow⟩ := h
  refine ⟨?_, ?_⟩
  · rwa [demod_start hdemod, hlen]
  · rwa [demod_start hdemod, hbits]

/-- An attempt that succeeds has found a sentinel, read a legal run from it to its end, and found the end
sentinel in the second-to-last place (R160, R171, R181). -/
theorem attempt_ok {F : Descriptor} (hF : F.wf = true) {s t : State} {c : BitVec 8}
    (h : attempt F s = .ok (t, .ok c)) :
    c = t.cnt ∧ SentinelAtStart F t ∧ EndedRun F t ∧ 2 ≤ t.cnt.toNat ∧
      Memory.read? t.out (t.cnt.toNat - 2) = some F.endChar := by
  rcases attempt_cases h with ⟨-, -, hr⟩ | ⟨u, hfind, hfound, ⟨e, info, -, hr⟩ | ⟨c', hdemod, hvalidate⟩⟩
  · cases hr
  · cases hr
  · have hsentinel := find_found hF hfind hfound
    obtain ⟨hc, htwo, hend⟩ := validate_ok hvalidate
    exact ⟨hc, hsentinel.after_demod hdemod, (demod_ok hF hsentinel.start_le_len hdemod).2, htwo, hend⟩

/-- The six errors of an attempt (R181). -/
theorem attempt_err {F : Descriptor} {s t : State} {e : ErrCode} {info : Nat}
    (h : attempt F s = .ok (t, .err e info)) :
    e ∈ [ErrCode.startSentinelNotFound, .symbolParityError, .invalidSymbol, .outputBufferTooSmall,
      .malformedTerminator, .longitudinalParityError] := by
  rcases attempt_cases h with ⟨-, -, hr⟩ | ⟨u, -, -, ⟨e', info', hdemod, hr⟩ | ⟨c, -, hvalidate⟩⟩
  · cases hr
    simp
  · cases hr
    rcases demod_err hdemod with rfl | rfl | rfl <;> simp
  · rcases validate_err hvalidate with rfl | rfl <;> simp

/-- An attempt writes `OUT` and working registers only (R181). -/
theorem attempt_frame {F : Descriptor} {s t : State} {r : AttemptResult}
    (h : attempt F s = .ok (t, r)) : SameButWork s t := by
  rcases attempt_cases h with ⟨hfind, -, -⟩ | ⟨u, hfind, -, ⟨e, info, hdemod, -⟩ | ⟨c, hdemod, -⟩⟩
  · exact find_frame hfind
  · exact (find_frame hfind).trans (demod_frame hdemod)
  · exact (find_frame hfind).trans (demod_frame hdemod)

/-- A legal run from a start sentinel has the sentinel for its first symbol. -/
theorem SentinelAtStart.symbolAt_zero {F : Descriptor} {s : State} (h : SentinelAtStart F s) :
    symbolAt F s 0 = F.pattern := by
  obtain ⟨-, hwindow⟩ := h
  rw [symbolAt, Nat.zero_mul, Nat.add_zero, hwindow, BitVec.ofNat_toNat, BitVec.setWidth_eq]

/-! ### Over a readable buffer every stage answers -/

theorem Readable.of_sameButWork {s t : State} (h : Readable s) (hst : SameButWork s t) :
    Readable t := by
  obtain ⟨hbits, hlen, -, -, hcfg⟩ := hst.buffer
  exact ⟨by rw [hlen, hcfg]; exact h.lenCap, by rw [hlen, hbits]; exact h.cells⟩

theorem findLoop_answers {F : Descriptor} {n : Nat} {s : State} (hread : Readable s)
    (hleft : s.idx.toNat + n = s.len.toNat) : ∃ t, findLoop F n s = .ok t := by
  induction n generalizing s with
  | zero => exact ⟨_, rfl⟩
  | succ n ih =>
    have hlt : s.idx.toNat < s.len.toNat := by omega
    obtain ⟨b, hb, -⟩ := hread.bitRead hlt
    unfold findLoop
    rw [hb, except_ok_bind]
    by_cases hmatch : accUpdate F s.acc b = F.pattern
    · exact ⟨_, if_pos hmatch⟩
    · simp only [hmatch, if_false]
      refine ih (hread.of_sameButWork rfl) ?_
      rw [scanOn_idx, toNat_add_one_of_lt hlt, scanOn_len]
      omega

theorem find_answers (F : Descriptor) {s : State} (hread : Readable s) : ∃ t, find F s = .ok t :=
  findLoop_answers (hread.of_sameButWork (t := beginScan s) rfl) (by simp)

theorem shiftIn_answers (F : Descriptor) {s : State} (hread : Readable s)
    (hlt : s.idx.toNat < s.len.toNat) : ∃ u c, shiftIn F s = .ok (u, c) := by
  obtain ⟨b, hb, -⟩ := hread.bitRead hlt
  unfold shiftIn
  rw [hb, except_ok_bind]
  by_cases hw : s.bitcnt.toNat + 1 = F.width
  · exact ⟨_, _, if_pos hw⟩
  · exact ⟨_, _, if_neg hw⟩

/-- The three ways on from a completed symbol, run forwards. -/
theorem demodLoop_of_symbol {F : Descriptor} {n : Nat} {s u v : State} {turn : Turn}
    (hshift : shiftIn F s = .ok (u, true)) (hv : demodSymbol F u.acc u = (v, turn)) :
    demodLoop F (n + 1) s = match turn with
      | .go => demodLoop F n v
      | .stop => .ok (terminate v, .ok v.cnt)
      | .raised e info => .ok (v, .err e info) := by
  conv_lhs => unfold demodLoop
  rw [hshift, except_ok_bind]
  simp only [if_true, hv]
  cases turn <;> rfl

theorem demodLoop_of_bit {F : Descriptor} {n : Nat} {s u : State}
    (hshift : shiftIn F s = .ok (u, false)) : demodLoop F (n + 1) s = demodLoop F n u := by
  conv_lhs => unfold demodLoop
  rw [hshift, except_ok_bind]
  simp

theorem demodSymbol_go_idx {F : Descriptor} {sym : BitVec 8} {s v : State}
    (h : demodSymbol F sym s = (v, .go)) : v.idx = s.idx := by
  obtain ⟨-, -, -, ch, -, rfl⟩ := demodSymbol_go h
  rfl

theorem demodLoop_answers {F : Descriptor} {n : Nat} {s : State} (hread : Readable s)
    (hleft : s.idx.toNat + n = s.len.toNat) : ∃ t r, demodLoop F n s = .ok (t, r) := by
  induction n generalizing s with
  | zero => exact ⟨_, _, rfl⟩
  | succ n ih =>
    obtain ⟨u, c, hshift⟩ := shiftIn_answers F hread (by omega : s.idx.toNat < s.len.toNat)
    obtain ⟨-, hidx, hlen⟩ := shiftIn_moves hshift
    have hsu := shiftIn_frame hshift
    cases c with
    | false =>
      rw [demodLoop_of_bit hshift]
      exact ih (hread.of_sameButWork hsu) (by rw [hidx, hlen]; omega)
    | true =>
      rcases hv : demodSymbol F u.acc u with ⟨v, turn⟩
      have huv := demodSymbol_frame F u.acc u
      rw [hv] at huv
      rw [demodLoop_of_symbol hshift hv]
      cases turn with
      | go =>
        refine ih (hread.of_sameButWork (hsu.trans huv)) ?_
        rw [demodSymbol_go_idx hv, huv.buffer.2.1, hidx, hlen]
        omega
      | stop => exact ⟨_, _, rfl⟩
      | raised e info => exact ⟨_, _, rfl⟩

theorem demod_answers (F : Descriptor) {s : State} (hread : Readable s)
    (hstart : s.start.toNat ≤ s.len.toNat) : ∃ t r, demod F s = .ok (t, r) := by
  refine demodLoop_answers (hread.of_sameButWork (t := beginDemod s) rfl) ?_
  rw [beginDemod_idx, beginDemod_len]
  omega

theorem endchk_answers (F : Descriptor) {s : State}
    (hchars : ∀ j, j < s.cnt.toNat → (Memory.read? s.out j).isSome = true) :
    ∃ c, endchk F s = .ok c := by
  unfold endchk
  by_cases htwo : s.cnt.toNat < 2
  · exact ⟨_, if_pos htwo⟩
  · have hlt : s.cnt.toNat - 2 < s.cnt.toNat := by omega
    obtain ⟨ch, hch⟩ := Option.isSome_iff_exists.1 (hchars _ hlt)
    rw [if_neg htwo, outRead_eq_ok.2 ⟨hlt, hch⟩, except_ok_bind]
    split <;> exact ⟨_, rfl⟩

/-- The bits of a data column lie inside the run (R172). -/
theorem columnSum_answers {F : Descriptor} {s : State} (hread : Readable s) {c n : Nat}
    (hc : c < F.width) (hinside : s.start.toNat + n * F.width ≤ s.len.toNat) :
    ∃ sum, columnSum F s c n = .ok sum := by
  induction n with
  | zero => exact ⟨0, rfl⟩
  | succ n ih =>
    rw [Nat.succ_mul] at hinside
    obtain ⟨sum, hsum⟩ := ih (by omega)
    obtain ⟨b, hb, -⟩ := hread.bitRead (i := s.start.toNat + c + n * F.width) (by omega)
    unfold columnSum
    rw [hsum, except_ok_bind, hb, except_ok_bind]
    exact ⟨_, rfl⟩

theorem lrcFrom_answers {F : Descriptor} {s : State} (hrun : RunReadable F s) {c n : Nat}
    (hcolumns : c + n ≤ F.width) : ∃ k, lrcFrom F s c n = .ok k := by
  induction n generalizing c with
  | zero => exact ⟨_, rfl⟩
  | succ n ih =>
    obtain ⟨sum, hsum⟩ := columnSum_answers hrun.buffer (by omega : c < F.width) hrun.inside
    unfold lrcFrom
    rw [hsum, except_ok_bind]
    split
    · exact ⟨_, rfl⟩
    · exact ih (by omega)

theorem validate_answers {F : Descriptor} {s : State} (hrun : RunReadable F s) :
    ∃ r, validate F s = .ok r := by
  obtain ⟨c, hc⟩ := endchk_answers F hrun.chars
  obtain ⟨k, hk⟩ : ∃ k, lrc F s = .ok k := lrcFrom_answers hrun (by omega)
  unfold validate
  rw [hc, except_ok_bind]
  cases c with
  | raised e info => exact ⟨_, rfl⟩
  | pass =>
    simp only [hk, except_ok_bind]
    cases k <;> exact ⟨_, rfl⟩

/-- Over a readable buffer an attempt answers (R72, R181). -/
theorem attempt_answers {F : Descriptor} (hF : F.wf = true) {s : State} (hread : Readable s) :
    ∃ t r, attempt F s = .ok (t, r) := by
  obtain ⟨u, hu⟩ := find_answers F hread
  have hread' := hread.of_sameButWork (find_frame hu)
  unfold attempt
  rw [hu, except_ok_bind]
  by_cases hfound : u.startFound = true
  · have hstart := (find_found hF hu hfound).start_le_len
    obtain ⟨v, r, hv⟩ := demod_answers F hread' hstart
    simp only [hfound, if_true, hv, except_ok_bind]
    cases r with
    | err e info => exact ⟨_, _, rfl⟩
    | ok c =>
      have hended := (demod_ok hF hstart hv).2
      obtain ⟨r', hr'⟩ := validate_answers
        ⟨hread'.of_sameButWork (demod_frame hv), hended.inside, hended.chars⟩
      simp only [hr', except_ok_bind]
      exact ⟨_, _, rfl⟩
  · simp only [hfound]
    exact ⟨_, _, rfl⟩

end Sys2Proof.Machine
end

section
/-! SUPPORT. What an attempt depends on (R181): two states with the same bits below `LEN` and the same `SIZE_LIMIT` go
through its stages in lockstep. -/

namespace Sys2Proof.Machine

/-- The two states agree on what an attempt reads: `LEN`, `SIZE_LIMIT`, and the bits below `LEN`. -/
structure SameBuffer (s u : State) : Prop where
  len       : u.len = s.len
  sizeLimit : u.sizeLimit = s.sizeLimit
  cells     : ∀ i, i < s.len.toNat → Memory.read? u.bits i = Memory.read? s.bits i

/-- The two states also stand at the same place of the same run, with the same characters of it in `OUT`. -/
structure SameRun (s u : State) : Prop where
  buffer : SameBuffer s u
  acc    : u.acc = s.acc
  bitcnt : u.bitcnt = s.bitcnt
  idx    : u.idx = s.idx
  start  : u.start = s.start
  cnt    : u.cnt = s.cnt
  chars  : ∀ j, j < s.cnt.toNat → Memory.read? u.out j = Memory.read? s.out j

theorem SameBuffer.of_sameButWork {s u t v : State} (h : SameBuffer s u) (hst : SameButWork s t)
    (huv : SameButWork u v) : SameBuffer t v := by
  obtain ⟨htbits, htlen, -, htlimit, -⟩ := hst.buffer
  obtain ⟨hvbits, hvlen, -, hvlimit, -⟩ := huv.buffer
  refine ⟨?_, ?_, ?_⟩
  · rw [hvlen, htlen, h.len]
  · rw [hvlimit, htlimit, h.sizeLimit]
  · rw [htlen, hvbits, htbits]
    exact h.cells

theorem SameBuffer.bitRead_eq {s u : State} (h : SameBuffer s u) (i : Nat) :
    bitRead u i = bitRead s i := by
  unfold bitRead
  rw [h.len]
  by_cases hi : i < s.len.toNat
  · rw [if_pos hi, if_pos hi, h.cells i hi]
  · rw [if_neg hi, if_neg hi]

theorem SameRun.outRead_eq {s u : State} (h : SameRun s u) (j : Nat) : outRead u j = outRead s j := by
  unfold outRead
  rw [h.cnt]
  by_cases hj : j < s.cnt.toNat
  · rw [if_pos hj, if_pos hj, h.chars j hj]
  · rw [if_neg hj, if_neg hj]

/-! ### `FIND` -/

theorem findLoop_lockstep {F : Descriptor} {n : Nat} {s u t : State} (h : SameBuffer s u)
    (hacc : u.acc = s.acc) (hidx : u.idx = s.idx) (hfind : findLoop F n s = .ok t) :
    ∃ v, findLoop F n u = .ok v ∧ v.startFound = t.startFound ∧
      (t.startFound = true → v.start = t.start) := by
  induction n generalizing s u with
  | zero =>
    cases hfind
    exact ⟨_, rfl, rfl, fun hfound => by cases hfound⟩
  | succ n ih =>
    obtain ⟨b, hb, hturn⟩ := findLoop_succ hfind
    have hstep : findLoop F (n + 1) u =
        if accUpdate F s.acc b = F.pattern then .ok (foundHere F (accUpdate F s.acc b) u)
        else findLoop F n (scanOn (accUpdate F s.acc b) u) := by
      conv_lhs => unfold findLoop
      rw [hidx, h.bitRead_eq, hb, except_ok_bind, hacc]
    rw [hstep]
    rcases hturn with ⟨hmatch, rfl⟩ | ⟨hmatch, hrest⟩
    · refine ⟨_, if_pos hmatch, rfl, fun _ => ?_⟩
      rw [foundHere_start, foundHere_start, hidx]
    · rw [if_neg hmatch]
      have hnext : SameBuffer (scanOn (accUpdate F s.acc b) s) (scanOn (accUpdate F s.acc b) u) :=
        h.of_sameButWork rfl rfl
      exact ih hnext rfl (congrArg (· + 1) hidx) hrest

theorem find_lockstep {F : Descriptor} {s u t : State} (h : SameBuffer s u)
    (hfind : find F s = .ok t) :
    ∃ v, find F u = .ok v ∧ v.startFound = t.startFound ∧
      (t.startFound = true → v.start = t.start) := by
  unfold find at hfind ⊢
  rw [h.len]
  exact findLoop_lockstep (h.of_sameButWork (t := beginScan s) (v := beginScan u) rfl rfl) rfl rfl
    hfind

/-! ### `DEMOD` -/

theorem SameRun.after_beginDemod {s u : State} (h : SameBuffer s u) (hstart : u.start = s.start) :
    SameRun (beginDemod s) (beginDemod u) :=
  ⟨h.of_sameButWork rfl rfl, rfl, rfl, hstart, hstart, rfl, fun j hj => by simp at hj⟩

theorem shiftIn_lockstep {F : Descriptor} {s u s' : State} {c : Bool} (h : SameRun s u)
    (hshift : shiftIn F s = .ok (s', c)) : ∃ u', shiftIn F u = .ok (u', c) ∧ SameRun s' u' := by
  obtain ⟨b, hb, hturn⟩ := shiftIn_cases hshift
  have hstep : shiftIn F u =
      if s.bitcnt.toNat + 1 = F.width then .ok (symbolComplete (accUpdate F s.acc b) u, true)
      else .ok (gatherOn (accUpdate F s.acc b) u, false) := by
    unfold shiftIn
    rw [h.idx, h.buffer.bitRead_eq, hb, except_ok_bind, h.acc, h.bitcnt]
  have hidx : u.idx + 1 = s.idx + 1 := by rw [h.idx]
  rw [hstep]
  rcases hturn with ⟨hw, rfl, rfl⟩ | ⟨hw, rfl, rfl⟩
  · exact ⟨_, if_pos hw, h.buffer.of_sameButWork rfl rfl, rfl, rfl, hidx, h.start, h.cnt, h.chars⟩
  · exact ⟨_, if_neg hw, h.buffer.of_sameButWork rfl rfl, rfl, by
      rw [gatherOn_bitcnt, gatherOn_bitcnt, h.bitcnt], hidx, h.start, h.cnt, h.chars⟩

/-- The same character stored at the same place keeps the characters the same, that place included. -/
theorem SameRun.chars_after_write {s u : State} (h : SameRun s u) (ch : Char8) {j : Nat}
    (hj : j < s.cnt.toNat + 1) :
    Memory.read? (outWriteAtCnt u ch).out j = Memory.read? (outWriteAtCnt s ch).out j := by
  rw [outWriteAtCnt_out, outWriteAtCnt_out, h.cnt, Memory.read?_write, Memory.read?_write]
  split
  · rfl
  · exact h.chars j (by omega)

theorem demodSymbol_lockstep {F : Descriptor} {sym : BitVec 8} {s u s' : State} {turn : Turn}
    (h : SameRun s u) (hs : demodSymbol F sym s = (s', turn)) :
    ∃ u', demodSymbol F sym u = (u', turn) ∧ SameRun s' u' := by
  unfold demodSymbol at hs ⊢
  rw [h.buffer.sizeLimit, h.cnt]
  by_cases hzero : sym = 0
  · rw [if_pos hzero] at hs ⊢
    cases hs
    exact ⟨u, rfl, h⟩
  rw [if_neg hzero] at hs ⊢
  by_cases hparity : parityOk sym = true
  case neg =>
    rw [if_neg hparity] at hs ⊢
    cases hs
    exact ⟨u, rfl, h⟩
  rw [if_pos hparity] at hs ⊢
  cases hmap : F.map sym with
  | none =>
    simp only [hmap] at hs ⊢
    cases hs
    exact ⟨u, rfl, h⟩
  | some ch =>
    simp only [hmap] at hs ⊢
    by_cases hlimit : s.cnt < s.sizeLimit
    · rw [if_pos hlimit] at hs ⊢
      cases hs
      refine ⟨_, rfl, h.buffer.of_sameButWork rfl rfl, h.acc, h.bitcnt, h.idx, h.start, ?_, ?_⟩
      · rw [countChar_cnt, countChar_cnt, outWriteAtCnt_cnt, outWriteAtCnt_cnt, h.cnt]
      · intro j hj
        rw [countChar_cnt, outWriteAtCnt_cnt, toNat_add_one_of_lt (BitVec.lt_def.1 hlimit)] at hj
        exact h.chars_after_write ch hj
    · rw [if_neg hlimit] at hs ⊢
      cases hs
      exact ⟨u, rfl, h⟩

theorem SameRun.after_terminate {s u : State} (h : SameRun s u) :
    SameRun (terminate s) (terminate u) ∧
      ∀ j, j ≤ s.cnt.toNat → Memory.read? (terminate u).out j = Memory.read? (terminate s).out j :=
  ⟨⟨h.buffer.of_sameButWork rfl rfl, h.acc, h.bitcnt, h.idx, h.start, h.cnt,
    fun _ hj => h.chars_after_write 0 (Nat.lt_succ_of_lt hj)⟩,
    fun _ hj => h.chars_after_write 0 (Nat.lt_succ_of_le hj)⟩

theorem demodLoop_lockstep {F : Descriptor} {n : Nat} {s u t : State} {r : AttemptResult}
    (h : SameRun s u) (hs : demodLoop F n s = .ok (t, r)) :
    ∃ v, demodLoop F n u = .ok (v, r) ∧ SameRun t v ∧
      ∀ c, r = .ok c → ∀ j, j ≤ t.cnt.toNat → Memory.read? v.out j = Memory.read? t.out j := by
  induction n generalizing s u with
  | zero =>
    cases hs
    obtain ⟨hrun, hchars⟩ := h.after_terminate
    refine ⟨_, ?_, hrun, fun _ _ => hchars⟩
    rw [← h.cnt]
    rfl
  | succ n ih =>
    rcases demodLoop_succ hs with ⟨s', hshift, hrest⟩ | ⟨s', s'', turn, hshift, hsym, hend⟩
    · obtain ⟨u', hshift', h'⟩ := shiftIn_lockstep h hshift
      rw [demodLoop_of_bit hshift']
      exact ih h' hrest
    · obtain ⟨u', hshift', h'⟩ := shiftIn_lockstep h hshift
      obtain ⟨u'', hsym', h''⟩ := demodSymbol_lockstep h' hsym
      rw [← h'.acc] at hsym'
      rw [demodLoop_of_symbol hshift' hsym']
      rcases hend with ⟨rfl, hrest⟩ | ⟨rfl, rfl, rfl⟩ | ⟨e, info, rfl, rfl, rfl⟩
      · exact ih h'' hrest
      · obtain ⟨hrun, hchars⟩ := h''.after_terminate
        exact ⟨_, by rw [← h''.cnt], hrun, fun _ _ => hchars⟩
      · exact ⟨_, rfl, h'', fun _ hr => by cases hr⟩

theorem demod_lockstep {F : Descriptor} {s u t : State} {r : AttemptResult} (h : SameBuffer s u)
    (hstart : u.start = s.start) (hs : demod F s = .ok (t, r)) :
    ∃ v, demod F u = .ok (v, r) ∧ SameRun t v ∧
      ∀ c, r = .ok c → ∀ j, j ≤ t.cnt.toNat → Memory.read? v.out j = Memory.read? t.out j := by
  unfold demod at hs ⊢
  rw [h.len, hstart]
  exact demodLoop_lockstep (.after_beginDemod h hstart) hs

/-! ### The validator and the attempt -/

theorem SameRun.endchk_eq {s u : State} (h : SameRun s u) (F : Descriptor) :
    endchk F u = endchk F s := by
  unfold endchk
  rw [h.cnt, h.outRead_eq]

theorem SameRun.columnSum_eq {s u : State} (h : SameRun s u) (F : Descriptor) (c n : Nat) :
    columnSum F u c n = columnSum F s c n := by
  induction n with
  | zero => rfl
  | succ n ih =>
    unfold columnSum
    rw [ih, h.start, h.buffer.bitRead_eq]

theorem SameRun.lrcFrom_eq {s u : State} (h : SameRun s u) (F : Descriptor) (c n : Nat) :
    lrcFrom F u c n = lrcFrom F s c n := by
  induction n generalizing c with
  | zero => rfl
  | succ n ih =>
    unfold lrcFrom
    rw [h.cnt, h.columnSum_eq, ih]

theorem SameRun.validate_eq {s u : State} (h : SameRun s u) (F : Descriptor) :
    validate F u = validate F s := by
  unfold validate lrc
  rw [h.endchk_eq, h.lrcFrom_eq, h.cnt]

/-- From states that agree on the buffer an attempt gives the same result, and where it succeeds the same
characters and terminator (R181). -/
theorem attempt_lockstep {F : Descriptor} {s u t : State} {r : AttemptResult} (h : SameBuffer s u)
    (hs : attempt F s = .ok (t, r)) :
    ∃ v, attempt F u = .ok (v, r) ∧
      ∀ c, r = .ok c → ∀ j, j ≤ c.toNat → Memory.read? v.out j = Memory.read? t.out j := by
  rcases attempt_cases hs with ⟨hfind, hfound, rfl⟩ | ⟨s', hfind, hfound, hend⟩
  · obtain ⟨v, hv, hvfound, -⟩ := find_lockstep h hfind
    have hlen := (h.of_sameButWork (find_frame hfind) (find_frame hv)).len
    refine ⟨v, ?_, fun c hc => by cases hc⟩
    unfold attempt
    rw [hv, except_ok_bind, hvfound, hfound, ← hlen]
    rfl
  · obtain ⟨u', hu', hufound, hstart⟩ := find_lockstep h hfind
    have h' := h.of_sameButWork (find_frame hfind) (find_frame hu')
    rcases hend with ⟨e, info, hdemod, rfl⟩ | ⟨c, hdemod, hvalidate⟩
    · obtain ⟨v, hv, -, -⟩ := demod_lockstep h' (hstart hfound) hdemod
      refine ⟨v, ?_, fun c hc => by cases hc⟩
      unfold attempt
      rw [hu', except_ok_bind, hufound, if_pos hfound, hv]
      rfl
    · obtain ⟨v, hv, hrun, hchars⟩ := demod_lockstep h' (hstart hfound) hdemod
      have hvalidate' : validate F v = .ok r := (hrun.validate_eq F).trans hvalidate
      refine ⟨v, ?_, ?_⟩
      · unfold attempt
        rw [hu', except_ok_bind, hufound, if_pos hfound, hv, except_ok_bind]
        simp only [hvalidate', except_ok_bind]
      · rintro c' rfl
        obtain ⟨rfl, -, -⟩ := validate_ok hvalidate
        exact hchars c rfl

/-- Settles O33: the two attempts run in lockstep, and over a readable buffer they answer. -/
theorem attemptDependsOnTheBufferAlone : Obligations.AttemptDependsOnTheBufferAlone := by
  intro s u hread hlen hfmt hlimit hcells
  obtain ⟨t, r, ht⟩ := attempt_answers (descriptorOf_wf s.fmt) hread
  obtain ⟨v, hv, hchars⟩ := attempt_lockstep ⟨hlen, hlimit, hcells⟩ ht
  exact ⟨t, v, r, ht, by rw [hfmt]; exact hv, hchars⟩

end Sys2Proof.Machine
end

section
/-! SUPPORT. How an attempt is resolved (R186, R187): the four arms, what they leave alone, and the statements
about `STEP`'s record, the busy states and `DIR`. -/

namespace Sys2Proof.Machine

/-! ### The four arms -/

/-- In a decoding state the Direction Resolver takes one of the four arms of R186 and R187. -/
theorem resolveAttempt_cases {r : AttemptResult} {s t : State} (hdecoding : s.phase.decoding = true)
    (h : resolveAttempt r s = .ok t) :
    (∃ c, r = .ok c ∧ s.phase = .decodingFwd ∧ t = enterSuccessFwd c s) ∨
    (∃ c, r = .ok c ∧ s.phase = .decodingRev ∧ t = enterSuccessRev c s) ∨
    (∃ e info u, r = .err e info ∧ s.phase = .decodingFwd ∧
      reverse (recordFwdError e s) = .ok u ∧ t = enterReversed u) ∨
    (∃ e info, r = .err e info ∧ s.phase = .decodingRev ∧ t = enterFailure e s) := by
  cases r with
  | ok c =>
    cases h
    rcases acceptRecord_cases c s with ⟨hp, ht⟩ | ⟨hp, ht⟩ | ⟨hp, -⟩
    · exact .inl ⟨c, rfl, hp, ht⟩
    · exact .inr (.inl ⟨c, rfl, hp, ht⟩)
    · rw [hp] at hdecoding
      cases hdecoding
  | err e info =>
    rcases takeError_cases h with ⟨hp, u, hu, ht⟩ | ⟨hp, ht⟩ | ⟨hp, -⟩
    · exact .inr (.inr (.inl ⟨e, info, u, rfl, hp, hu, ht⟩))
    · exact .inr (.inr (.inr ⟨e, info, rfl, hp, ht⟩))
    · rw [hp] at hdecoding
      cases hdecoding

/-- What the four arms do to `STATE` and `DIR` (R189, R31). -/
theorem resolveAttempt_phase_dir {r : AttemptResult} {s t : State}
    (hdecoding : s.phase.decoding = true) (h : resolveAttempt r s = .ok t) :
    (t.phase = .successFwd ∧ t.dir = .forward) ∨ (t.phase = .successRev ∧ t.dir = .backward) ∨
    (t.phase = .decodingRev ∧ t.dir = s.dir) ∨ (t.phase = .failure ∧ t.dir = .unknown) := by
  rcases resolveAttempt_cases hdecoding h with
    ⟨c, -, -, rfl⟩ | ⟨c, -, -, rfl⟩ | ⟨e, info, u, -, -, hu, rfl⟩ | ⟨e, info, -, -, rfl⟩
  · exact .inl ⟨rfl, rfl⟩
  · exact .inr (.inl ⟨rfl, rfl⟩)
  · have hdir : u.dir = s.dir := by
      rw [reverse_frame hu]
      rfl
    exact .inr (.inr (.inl ⟨rfl, hdir⟩))
  · exact .inr (.inr (.inr ⟨rfl, rfl⟩))

/-- The resolution of an attempt keeps `LEN` and `FMT`. -/
theorem resolveAttempt_len_fmt {r : AttemptResult} {s t : State}
    (hdecoding : s.phase.decoding = true) (h : resolveAttempt r s = .ok t) :
    t.len = s.len ∧ t.fmt = s.fmt := by
  rcases resolveAttempt_cases hdecoding h with
    ⟨c, -, -, rfl⟩ | ⟨c, -, -, rfl⟩ | ⟨e, info, u, -, -, hu, rfl⟩ | ⟨e, info, -, -, rfl⟩
  case inr.inr.inl =>
    rw [enterReversed_len, enterReversed_fmt, reverse_frame hu]
    exact ⟨rfl, rfl⟩
  all_goals exact ⟨rfl, rfl⟩

/-! ### What a decoding instruction can do -/

theorem SameButWork.control {s t : State} (h : SameButWork s t) :
    t.phase = s.phase ∧ t.dir = s.dir ∧ t.engine = s.engine := by
  unfold SameButWork at h
  rw [h]
  exact ⟨rfl, rfl, rfl⟩

/-- An instruction of an attempt: after what it writes to `OUT` and the working registers, it may resolve
the attempt. -/
def AttemptResolved (s t : State) : Prop :=
  s.phase.decoding = true ∧ ∃ u r, SameButWork s u ∧ resolveAttempt r u = .ok t

theorem AttemptResolved.phase_dir {s t : State} (h : AttemptResolved s t) :
    (t.phase = .successFwd ∧ t.dir = .forward) ∨ (t.phase = .successRev ∧ t.dir = .backward) ∨
    (t.phase = .decodingRev ∧ t.dir = s.dir) ∨ (t.phase = .failure ∧ t.dir = .unknown) := by
  obtain ⟨hdecoding, u, r, hsu, hr⟩ := h
  obtain ⟨hphase, hdir, -⟩ := hsu.control
  rw [← hphase] at hdecoding
  rw [← hdir]
  exact resolveAttempt_phase_dir hdecoding hr

theorem AttemptResolved.len_fmt {s t : State} (h : AttemptResolved s t) :
    t.len = s.len ∧ t.fmt = s.fmt := by
  obtain ⟨hdecoding, u, r, hsu, hr⟩ := h
  obtain ⟨hphase, -, -⟩ := hsu.control
  obtain ⟨-, hlen, hfmt, -, -⟩ := hsu.buffer
  rw [← hphase] at hdecoding
  rw [← hlen, ← hfmt]
  exact resolveAttempt_len_fmt hdecoding hr

/-- One symbol goes on with the run, or resolves the attempt. -/
theorem symbolTurn_goes_on_or_resolves {fmt : Format} {sym : BitVec 8} {s t : State}
    (h : symbolTurn fmt sym s = .next t) : SameButWork s t ∨ AttemptResolved s t := by
  rcases symbolTurn_cases h with ⟨-, rfl⟩ | ⟨v, turn, hd, -, hv, hend⟩
  · exact .inl (.refl _)
  · have hdecoding := ((demodulating_iff s).1 hd).2
    have hsv := demodSymbol_frame (descriptorOf fmt) sym s
    rw [hv] at hsv
    rcases hend with ⟨-, rfl⟩ | ⟨-, hconclude⟩ | ⟨e, info, -, herror⟩
    · exact .inl hsv
    · obtain ⟨r, -, hr⟩ := except_bind_ok hconclude
      exact .inr ⟨hdecoding, terminate v, r, hsv.trans rfl, hr⟩
    · exact .inr ⟨hdecoding, v, .err e info, hsv, herror⟩

/-- `STEP` enters `DECODING_FWD`, resolves its attempt, or waits. -/
theorem execStep_resolves {s t : State} (h : execStep s = .next t) :
    (s.phase = .captureComplete ∧ t = setPhase .decodingFwd s) ∨ AttemptResolved s t ∨
    (s.phase.busy = false ∧ t = s) := by
  rcases execStep_cases h with h' | ⟨hdecoding, u, r, hattempt, hr⟩ | h'
  · exact .inl h'
  · exact .inr (.inl ⟨hdecoding, u, r, attempt_frame hattempt, hr⟩)
  · exact .inr (.inr h')

/-! ### The accepted record -/

/-- The character of the start sentinel is not that of the end sentinel, so a record with the end sentinel
in its second-to-last place has more than two characters (R171 corner case (d)). -/
theorem pattern_char_ne_endChar (fmt : Format) :
    (descriptorOf fmt).map (descriptorOf fmt).pattern ≠ some (descriptorOf fmt).endChar := by
  cases fmt <;> decide

/-- The characters of a successful attempt: the start sentinel first, the end sentinel in the
second-to-last place, the terminator after the last, and at least three of them. -/
theorem attempt_ok_framed {fmt : Format} {s t : State} {c : BitVec 8}
    (h : attempt (descriptorOf fmt) s = .ok (t, .ok c)) :
    3 ≤ c.toNat ∧ c ≤ s.sizeLimit ∧
    Memory.read? t.out 0 = (descriptorOf fmt).map (descriptorOf fmt).pattern ∧
    Memory.read? t.out (c.toNat - 2) = some 0x3F ∧ Memory.read? t.out c.toNat = some 0x00 := by
  obtain ⟨-, -, -, hlimit, -⟩ := (attempt_frame h).buffer
  obtain ⟨rfl, hsentinel, hended, htwo, hend⟩ := attempt_ok (descriptorOf_wf fmt) h
  obtain ⟨-, -, ch, hmap, hfirst⟩ := hended.legal 0 (by omega)
  rw [hsentinel.symbolAt_zero] at hmap
  have hthree : t.cnt.toNat ≠ 2 := by
    intro hcnt
    rw [hcnt, Nat.sub_self, hfirst, ← hmap] at hend
    exact pattern_char_ne_endChar fmt hend
  refine ⟨by omega, hlimit ▸ hended.limit, hfirst.trans hmap.symm, ?_, hended.terminator⟩
  rw [hend, descriptorOf_endChar]

/-- Settles O37: a `STEP` that ends in a success state has accepted the record of its attempt. -/
theorem acceptedRecordIsFramed : Obligations.AcceptedRecordIsFramed := by
  intro s t hdecoding h hsuccess
  rcases execStep_cases h with ⟨hp, -⟩ | ⟨-, u, r, hattempt, hr⟩ | ⟨hbusy, -⟩
  · rw [hp] at hdecoding
    cases hdecoding
  · have hphase := (attempt_frame hattempt).control.1
    rw [← hphase] at hdecoding
    rcases resolveAttempt_cases hdecoding hr with
      ⟨c, rfl, -, rfl⟩ | ⟨c, rfl, -, rfl⟩ | ⟨e, info, v, -, -, -, rfl⟩ | ⟨e, info, -, -, rfl⟩
    · have hframed := attempt_ok_framed hattempt
      exact ⟨rfl, hframed⟩
    · have hframed := attempt_ok_framed hattempt
      exact ⟨rfl, hframed⟩
    · cases hsuccess
    · cases hsuccess
  · rcases (Phase.decoding_iff _).1 hdecoding with hp | hp <;> rw [hp] at hbusy <;> cases hbusy

/-! ### `LEN` and `FMT` in the busy states -/

theorem Phase.quiet_eq_false_of_busy {p : Phase} (h : p.busy = true) : p.quiet = false := by
  rcases p.busy_iff.1 h with rfl | rfl | rfl <;> rfl

/-- Settles O48, instruction class by instruction class. The classes that write `LEN` or `FMT` act in quiet
states or in `CAPTURING` only. -/
theorem busyStatesKeepLenAndFmt : Obligations.BusyStatesKeepLenAndFmt := by
  intro i s t hi hbusy h
  have hquiet := Phase.quiet_eq_false_of_busy hbusy
  rcases instr_cases i with
    ⟨fmt, rfl⟩ | rfl | ⟨n, rfl⟩ | rfl | rfl | ⟨b, rfl⟩ | rfl | rfl | hsymbol
  · rcases execBegin_cases h with ⟨hq, -, -⟩ | ⟨-, rfl⟩
    · rw [hquiet] at hq
      cases hq
    · exact ⟨rfl, rfl⟩
  · cases h
    exact ⟨rfl, rfl⟩
  · rcases execSetlim_cases h with ⟨-, rfl⟩ | ⟨-, rfl⟩ <;> exact ⟨rfl, rfl⟩
  · rcases execCardOn_cases h with ⟨-, rfl⟩ | ⟨-, hq, -⟩ | ⟨-, -, rfl⟩
    · exact ⟨rfl, rfl⟩
    · rw [hquiet] at hq
      cases hq
    · exact ⟨rfl, rfl⟩
  · rcases execCardOff_cases h with ⟨-, -, rfl⟩ | ⟨-, rfl⟩ <;> exact ⟨rfl, rfl⟩
  · rcases execBit_cases h with rfl | ⟨-, hp, -⟩ | ⟨-, -, rfl⟩
    · exact ⟨rfl, rfl⟩
    · rw [hp] at hbusy
      cases hbusy
    · exact ⟨rfl, rfl⟩
  · rcases execStep_resolves h with ⟨-, rfl⟩ | hresolved | ⟨-, rfl⟩
    · exact ⟨rfl, rfl⟩
    · exact hresolved.len_fmt
    · exact ⟨rfl, rfl⟩
  · exact absurd rfl hi
  · obtain ⟨fmt, sym, hturn⟩ := exec_symbol i hsymbol
    rw [hturn] at h
    rcases symbolTurn_goes_on_or_resolves h with hframe | hresolved
    · obtain ⟨-, hlen, hfmt, -, -⟩ := hframe.buffer
      exact ⟨hlen, hfmt⟩
    · exact hresolved.len_fmt

/-! ### `DIR` -/

/-- What R31 says of one step: `DIR` changes only where a terminal state is entered, and is then the
direction of that state. -/
def DirFollowsPhase (s t : State) : Prop :=
  (t.dir ≠ s.dir → s.phase.terminal = false ∧ t.phase.terminal = true) ∧
  (s.phase.terminal = false → t.phase.terminal = true →
    t.phase = .successFwd ∧ t.dir = .forward ∨ t.phase = .successRev ∧ t.dir = .backward ∨
    t.phase = .failure ∧ t.dir = .unknown)

theorem DirFollowsPhase.of_same_phase {s t : State} (hphase : t.phase = s.phase)
    (hdir : t.dir = s.dir) : DirFollowsPhase s t := by
  refine ⟨fun hne => absurd hdir hne, fun hs ht => ?_⟩
  rw [hphase, hs] at ht
  cases ht

theorem DirFollowsPhase.of_not_terminal {s t : State} (hphase : t.phase.terminal = false)
    (hdir : t.dir = s.dir) : DirFollowsPhase s t := by
  refine ⟨fun hne => absurd hdir hne, fun _ ht => ?_⟩
  rw [hphase] at ht
  cases ht

theorem DirFollowsPhase.of_sameButWork {s t : State} (h : SameButWork s t) : DirFollowsPhase s t :=
  .of_same_phase h.control.1 h.control.2.1

theorem AttemptResolved.dirFollowsPhase {s t : State} (h : AttemptResolved s t) :
    DirFollowsPhase s t := by
  have hterminal : s.phase.terminal = false := by
    rcases (Phase.decoding_iff _).1 h.1 with hp | hp <;> rw [hp] <;> rfl
  rcases h.phase_dir with ⟨hp, hd⟩ | ⟨hp, hd⟩ | ⟨hp, hd⟩ | ⟨hp, hd⟩
  · exact ⟨fun _ => ⟨hterminal, by rw [hp]; rfl⟩, fun _ _ => .inl ⟨hp, hd⟩⟩
  · exact ⟨fun _ => ⟨hterminal, by rw [hp]; rfl⟩, fun _ _ => .inr (.inl ⟨hp, hd⟩)⟩
  · exact .of_not_terminal (by rw [hp]; rfl) hd
  · exact ⟨fun _ => ⟨hterminal, by rw [hp]; rfl⟩, fun _ _ => .inr (.inr ⟨hp, hd⟩)⟩

/-- `APPEND` writes `BITS`, `LEN` and `OVF` only (R125, R127). -/
theorem append_frame {b : Bit} {s t : State} (h : append b s = .ok t) :
    t = { s with bits := t.bits, len := t.len, ovf := t.ovf } := by
  rw [append_eq, Except.ok.injEq] at h
  subst h
  split <;> rfl

theorem DirFollowsPhase.of_append {b : Bit} {s t : State} (h : append b s = .ok t) :
    DirFollowsPhase s t := by
  rw [append_frame h]
  exact .of_same_phase rfl rfl

/-- Settles O51, instruction class by instruction class: only the resolution of an attempt writes `DIR`. -/
theorem dirChangesOnlyAtTerminalStates : Obligations.DirChangesOnlyAtTerminalStates := by
  intro i s t hi h
  show DirFollowsPhase s t
  rcases instr_cases i with
    ⟨fmt, rfl⟩ | rfl | ⟨n, rfl⟩ | rfl | rfl | ⟨b, rfl⟩ | rfl | rfl | hsymbol
  · rcases execBegin_cases h with ⟨-, -, rfl⟩ | ⟨-, rfl⟩ <;> exact .of_same_phase rfl rfl
  · cases h
    exact .of_same_phase rfl rfl
  · rcases execSetlim_cases h with ⟨-, rfl⟩ | ⟨-, rfl⟩ <;> exact .of_same_phase rfl rfl
  · rcases execCardOn_cases h with ⟨-, rfl⟩ | ⟨-, -, rfl⟩ | ⟨-, -, rfl⟩
    · exact .of_same_phase rfl rfl
    · exact .of_not_terminal rfl rfl
    · exact .of_same_phase rfl rfl
  · rcases execCardOff_cases h with ⟨-, -, rfl⟩ | ⟨-, rfl⟩
    · exact .of_not_terminal rfl rfl
    · exact .of_same_phase rfl rfl
  · rcases execBit_cases h with rfl | ⟨-, -, happend⟩ | ⟨-, -, rfl⟩
    · exact .of_same_phase rfl rfl
    · exact .of_append happend
    · exact .of_same_phase rfl rfl
  · rcases execStep_resolves h with ⟨-, rfl⟩ | hresolved | ⟨-, rfl⟩
    · exact .of_not_terminal rfl rfl
    · exact hresolved.dirFollowsPhase
    · exact .of_same_phase rfl rfl
  · exact absurd rfl hi
  · obtain ⟨fmt, sym, hturn⟩ := exec_symbol i hsymbol
    rw [hturn] at h
    rcases symbolTurn_goes_on_or_resolves h with hframe | hresolved
    · exact .of_sameButWork hframe
    · exact hresolved.dirFollowsPhase

end Sys2Proof.Machine
end

section
/-! SUPPORT. The invariant of the machine (R40, R21, R60, R61, R160): what keeps its parts about the memories, the
record, and the run of an attempt in progress; and that every step keeps the whole. -/

namespace Sys2Proof.Machine

/-! ### The memories -/

theorem MemoryInv.congr {s t : State} (h : MemoryInv s) (hcfg : t.cfg = s.cfg) (hlen : t.len = s.len)
    (hbits : t.bits = s.bits) (hout : t.out = s.out) : MemoryInv t where
  cfgWf := by rw [hcfg]; exact h.cfgWf
  readable := ⟨by rw [hlen, hcfg]; exact h.readable.lenCap, by rw [hlen, hbits]; exact h.readable.cells⟩
  bitsWf := by rw [hbits]; exact h.bitsWf
  bitsBound := by rw [hbits, hcfg]; exact h.bitsBound
  outWf := by rw [hout]; exact h.outWf
  outBound := by rw [hout]; exact h.outBound

/-- A buffer of length 0 asks nothing of its cells. -/
theorem MemoryInv.with_len_zero {s : State} (h : MemoryInv s) : MemoryInv { s with len := 0 } :=
  { h with readable := ⟨Nat.zero_le _, fun _ hi => absurd hi (Nat.not_lt_zero _)⟩ }

theorem MemoryInv.write_bits {s : State} (h : MemoryInv s) {i : Nat} (hi : i < s.cfg.bufCap) (v : Bit) :
    MemoryInv { s with bits := Memory.write s.bits i v } :=
  { h with
    readable := ⟨h.readable.lenCap, fun k hk => isSome_read?_write (.inr (h.readable.cells k hk))⟩
    bitsWf := Memory.wf_write h.bitsWf i v
    bitsBound := Memory.bound_write h.bitsBound hi v }

theorem MemoryInv.after_outWriteAtCnt {s : State} (h : MemoryInv s) (v : Char8) :
    MemoryInv (outWriteAtCnt s v) :=
  { h with
    readable := ⟨h.readable.lenCap, h.readable.cells⟩
    outWf := Memory.wf_write h.outWf _ v
    outBound := Memory.bound_write h.outBound s.cnt.isLt v }

theorem MemoryInv.of_append {b : Bit} {s t : State} (h : MemoryInv s) (happend : append b s = .ok t) :
    MemoryInv t := by
  rw [append_eq, Except.ok.injEq] at happend
  subst happend
  by_cases hroom : s.len.toNat < s.cfg.bufCap
  case neg =>
    rw [if_neg hroom]
    exact h.congr rfl rfl rfl rfl
  rw [if_pos hroom]
  have hcap : s.cfg.bufCap ≤ 65535 := by
    have := h.cfgWf
    simp only [Config.wf, Bool.and_eq_true, decide_eq_true_eq] at this
    exact this.2
  have hlen : (s.len + 1).toNat = s.len.toNat + 1 := toNat_add_one (by omega)
  have hwritten := h.write_bits hroom b
  refine { hwritten with readable := ⟨hlen.le.trans hroom, fun i hi => ?_⟩ }
  refine isSome_read?_write ?_
  rcases Nat.lt_succ_iff_lt_or_eq.1 (hlen ▸ hi : i < s.len.toNat + 1) with hlt | heq
  · exact .inr (h.readable.cells i hlt)
  · exact .inl heq

theorem MemoryInv.of_swapPair {s t : State} {i : Nat} (h : MemoryInv s) (hswap : swapPair s i = .ok t) :
    MemoryInv t := by
  obtain ⟨a, b, -, -, hi, hj, rfl⟩ := swapPair_eq_ok hswap
  exact (h.write_bits hi b).write_bits hj a

theorem MemoryInv.of_reversePairs {n : Nat} {s t : State} (h : MemoryInv s)
    (hreverse : reversePairs n s = .ok t) : MemoryInv t := by
  induction n generalizing t with
  | zero =>
    cases hreverse
    exact h
  | succ n ih =>
    obtain ⟨u, hu, hswap⟩ := except_bind_ok hreverse
    exact (ih hu).of_swapPair hswap

theorem MemoryInv.of_reverse {s t : State} (h : MemoryInv s) (hreverse : reverse s = .ok t) :
    MemoryInv t :=
  h.of_reversePairs hreverse

theorem MemoryInv.of_findLoop {F : Descriptor} {n : Nat} {s t : State} (h : MemoryInv s)
    (hfind : findLoop F n s = .ok t) : MemoryInv t := by
  induction n generalizing s with
  | zero =>
    cases hfind
    exact h.congr rfl rfl rfl rfl
  | succ n ih =>
    obtain ⟨b, -, ⟨-, rfl⟩ | ⟨-, hrest⟩⟩ := findLoop_succ hfind
    · exact h.congr rfl rfl rfl rfl
    · have hnext : MemoryInv (scanOn (accUpdate F s.acc b) s) := h.congr rfl rfl rfl rfl
      exact ih hnext hrest

theorem MemoryInv.of_find {F : Descriptor} {s t : State} (h : MemoryInv s) (hfind : find F s = .ok t) :
    MemoryInv t :=
  MemoryInv.of_findLoop (s := beginScan s) (h.congr rfl rfl rfl rfl) hfind

theorem MemoryInv.of_shiftIn {F : Descriptor} {s u : State} {c : Bool} (h : MemoryInv s)
    (hshift : shiftIn F s = .ok (u, c)) : MemoryInv u := by
  obtain ⟨b, -, ⟨-, -, rfl⟩ | ⟨-, -, rfl⟩⟩ := shiftIn_cases hshift <;> exact h.congr rfl rfl rfl rfl

theorem MemoryInv.of_demodSymbol {F : Descriptor} {sym : BitVec 8} {s v : State} {turn : Turn}
    (h : MemoryInv s) (hv : demodSymbol F sym s = (v, turn)) : MemoryInv v := by
  cases turn with
  | go =>
    obtain ⟨-, -, -, ch, -, rfl⟩ := demodSymbol_go hv
    exact (h.after_outWriteAtCnt ch).congr rfl rfl rfl rfl
  | stop =>
    obtain ⟨-, rfl⟩ := demodSymbol_stop hv
    exact h
  | raised e info =>
    obtain ⟨-, rfl⟩ := demodSymbol_raised hv
    exact h

theorem MemoryInv.of_demod {F : Descriptor} {s t : State} {r : AttemptResult} (h : MemoryInv s)
    (hdemod : demod F s = .ok (t, r)) : MemoryInv t :=
  demodLoop_induction (P := fun _ => MemoryInv) (Q := fun t _ => MemoryInv t)
    (fun _ hs => hs.after_outWriteAtCnt 0)
    (fun _ _ _ hs hshift => hs.of_shiftIn hshift)
    (fun _ _ _ _ hs hshift hgo => (hs.of_shiftIn hshift).of_demodSymbol hgo)
    (fun _ _ _ _ hs hshift hstop => ((hs.of_shiftIn hshift).of_demodSymbol hstop).after_outWriteAtCnt 0)
    (fun _ _ _ _ _ _ hs hshift hraised => (hs.of_shiftIn hshift).of_demodSymbol hraised)
    (h.congr rfl rfl rfl rfl : MemoryInv (beginDemod s)) hdemod

theorem MemoryInv.of_attempt {F : Descriptor} {s t : State} {r : AttemptResult} (h : MemoryInv s)
    (hattempt : attempt F s = .ok (t, r)) : MemoryInv t := by
  rcases attempt_cases hattempt with
    ⟨hfind, -, -⟩ | ⟨u, hfind, -, ⟨e, info, hdemod, -⟩ | ⟨c, hdemod, -⟩⟩
  · exact h.of_find hfind
  · exact (h.of_find hfind).of_demod hdemod
  · exact (h.of_find hfind).of_demod hdemod

/-! ### The record -/

theorem RecordInv.congr {s t : State} (h : RecordInv s) (hphase : t.phase = s.phase)
    (hcard : t.phase = .capturing → t.card = true) (hok : t.ok = s.ok) (hdir : t.dir = s.dir)
    (hcount : t.count = s.count) (hout : t.out = s.out) (hfwd : t.errFwd = s.errFwd)
    (hrev : t.errRev = s.errRev) : RecordInv t where
  capturingCard := hcard
  okSuccess := by rw [hok, hphase]; exact h.okSuccess
  successFwd := by rw [hphase, hdir, hfwd, hrev]; exact h.successFwd
  successRev := by rw [hphase, hdir, hfwd, hrev]; exact h.successRev
  failure := by rw [hphase, hdir, hcount, hfwd, hrev]; exact h.failure
  record := by rw [hok, hcount, hout]; exact h.record
  fwdCode := by rw [hfwd]; exact h.fwdCode
  revCode := by rw [hrev]; exact h.revCode
  noCodeYet := by rw [hphase, hfwd, hrev]; exact h.noCodeYet
  retrying := by rw [hphase, hfwd, hrev]; exact h.retrying

/-- A state without a record and without a code, before the first attempt has ended. -/
theorem RecordInv.of_no_code {t : State}
    (hphase : t.phase = .idle ∨ t.phase = .capturing ∧ t.card = true ∨ t.phase = .captureComplete ∨
      t.phase = .decodingFwd)
    (hok : t.ok = false) (hfwd : t.errFwd = .noError) (hrev : t.errRev = .noError) : RecordInv t := by
  have hcode : ErrCode.noError ≠ .noCardPresent ∧ ErrCode.noError ≠ .captureOverflow := by decide
  have hphases : ∀ p : Phase, t.phase = p →
      p = .idle ∨ p = .capturing ∧ t.card = true ∨ p = .captureComplete ∨ p = .decodingFwd := by
    rintro p rfl
    exact hphase
  refine ⟨fun hp => ?_, ?_, fun hp => ?_, fun hp => ?_, fun hp => ?_, fun h => ?_, hfwd ▸ hcode,
    hrev ▸ hcode, fun _ => ⟨hfwd, hrev⟩, fun hp => ?_⟩
  · simpa using hphases _ hp
  · rw [hok]
    rcases hphase with hp | ⟨hp, -⟩ | hp | hp <;> rw [hp] <;> rfl
  · simpa using hphases _ hp
  · simpa using hphases _ hp
  · simpa using hphases _ hp
  · rw [hok] at h
    cases h
  · simpa using hphases _ hp

/-- While an attempt runs there is no record, so what it writes to `OUT` is no matter yet. -/
theorem RecordInv.of_sameButWork {s t : State} (h : RecordInv s) (hdecoding : s.phase.decoding = true)
    (hst : SameButWork s t) : RecordInv t := by
  have hok : s.ok = false := by
    rw [h.okSuccess]
    rcases (Phase.decoding_iff _).1 hdecoding with hp | hp <;> rw [hp] <;> rfl
  unfold SameButWork at hst
  rw [hst]
  exact { h with record := fun hrecord => by rw [show s.ok = true from hrecord] at hok; cases hok }

/-- The errors a decode can take: none of the three codes that no attempt records (R210). -/
def IsDecodeError (e : ErrCode) : Prop :=
  e ≠ .noError ∧ e ≠ .noCardPresent ∧ e ≠ .captureOverflow

/-- A record of `c` characters stands in `m` (R28, R40 items 7 and 8). -/
def RecordWritten (c : BitVec 8) (m : Cells 8) : Prop :=
  2 ≤ c.toNat ∧ Memory.read? m (c.toNat - 2) = some 0x3F ∧ Memory.read? m c.toNat = some 0x00 ∧
    ∀ j, j < c.toNat → (Memory.read? m j).isSome = true

/-- What must hold of the result of an attempt for its resolution to keep the invariant. -/
def Resolvable (r : AttemptResult) (s : State) : Prop :=
  (∀ c, r = .ok c → RecordWritten c s.out) ∧ ∀ e info, r = .err e info → IsDecodeError e

theorem Resolvable.of_ok {c : BitVec 8} {s : State} (h : RecordWritten c s.out) :
    Resolvable (.ok c) s :=
  ⟨fun _ hc => by cases hc; exact h, fun _ _ hr => by cases hr⟩

theorem Resolvable.of_err {e : ErrCode} {info : Nat} {s : State} (h : IsDecodeError e) :
    Resolvable (.err e info) s :=
  ⟨fun _ hc => (by cases hc), fun _ _ hr => by cases hr; exact h⟩

theorem RecordInv.after_enterSuccessFwd {c : BitVec 8} {s : State} (h : RecordInv s)
    (hphase : s.phase = .decodingFwd) (hrecord : RecordWritten c s.out) :
    RecordInv (enterSuccessFwd c s) where
  capturingCard := nofun
  okSuccess := rfl
  successFwd := fun _ => ⟨rfl, rfl, (h.noCodeYet (.inr (.inr hphase))).2⟩
  successRev := nofun
  failure := nofun
  record := fun _ => hrecord
  fwdCode := ⟨nofun, nofun⟩
  revCode := h.revCode
  noCodeYet := nofun
  retrying := nofun

theorem RecordInv.after_enterSuccessRev {c : BitVec 8} {s : State} (h : RecordInv s)
    (hphase : s.phase = .decodingRev) (hrecord : RecordWritten c s.out) :
    RecordInv (enterSuccessRev c s) where
  capturingCard := nofun
  okSuccess := rfl
  successFwd := nofun
  successRev := fun _ => ⟨rfl, (h.retrying hphase).1, rfl⟩
  failure := nofun
  record := fun _ => hrecord
  fwdCode := h.fwdCode
  revCode := ⟨nofun, nofun⟩
  noCodeYet := nofun
  retrying := nofun

theorem RecordInv.after_enterFailure {e : ErrCode} {s : State} (h : RecordInv s)
    (hphase : s.phase = .decodingRev) (he : IsDecodeError e) : RecordInv (enterFailure e s) where
  capturingCard := nofun
  okSuccess := rfl
  successFwd := nofun
  successRev := nofun
  failure := fun _ => ⟨rfl, rfl, (h.retrying hphase).1, he.1⟩
  record := nofun
  fwdCode := h.fwdCode
  revCode := he.2
  noCodeYet := nofun
  retrying := nofun

theorem RecordInv.after_enterReversed {e : ErrCode} {s u : State} (h : RecordInv s)
    (hphase : s.phase = .decodingFwd) (he : IsDecodeError e)
    (hreverse : reverse (recordFwdError e s) = .ok u) : RecordInv (enterReversed u) := by
  have hok : s.ok = false := by rw [h.okSuccess, hphase]; rfl
  have hrev := (h.noCodeYet (.inr (.inr hphase))).2
  rw [reverse_frame hreverse]
  exact {
    capturingCard := nofun
    okSuccess := hok
    successFwd := nofun
    successRev := nofun
    failure := nofun
    record := fun hrecord => absurd (hok.symm.trans hrecord) Bool.false_ne_true
    fwdCode := he.2
    revCode := h.revCode
    noCodeYet := nofun
    retrying := fun _ => ⟨he.1, hrev⟩ }

end Sys2Proof.Machine
end

section
/-! SUPPORT. The whole invariant: the resolution of an attempt, an attempt in progress, the events, and every
step. -/

namespace Sys2Proof.Machine

/-! ### The resolution of an attempt -/

/-- With the engine at rest nothing is asked of a run. -/
theorem Inv.of_atRest {s : State} (hmemory : MemoryInv s) (hrecord : RecordInv s)
    (hengine : s.engine = .atRest) : Inv s where
  memory := hmemory
  record := hrecord
  run := fun h => by rw [hengine] at h; cases h

theorem Inv.of_resolveAttempt {r : AttemptResult} {s t : State} (hmemory : MemoryInv s)
    (hrecord : RecordInv s) (hdecoding : s.phase.decoding = true) (hr : Resolvable r s)
    (h : resolveAttempt r s = .ok t) : Inv t := by
  rcases resolveAttempt_cases hdecoding h with
    ⟨c, rfl, hp, rfl⟩ | ⟨c, rfl, hp, rfl⟩ | ⟨e, info, u, rfl, hp, hu, rfl⟩ | ⟨e, info, rfl, hp, rfl⟩
  · exact .of_atRest (hmemory.congr rfl rfl rfl rfl)
      (hrecord.after_enterSuccessFwd hp (hr.1 c rfl)) rfl
  · exact .of_atRest (hmemory.congr rfl rfl rfl rfl)
      (hrecord.after_enterSuccessRev hp (hr.1 c rfl)) rfl
  · have hmarked : MemoryInv (recordFwdError e s) := hmemory.congr rfl rfl rfl rfl
    exact .of_atRest ((hmarked.of_reverse hu).congr rfl rfl rfl rfl)
      (hrecord.after_enterReversed hp (hr.2 e info rfl) hu) rfl
  · exact .of_atRest (hmemory.congr rfl rfl rfl rfl)
      (hrecord.after_enterFailure hp (hr.2 e info rfl)) rfl

theorem isDecodeError_of_attempt {e : ErrCode}
    (h : e ∈ [ErrCode.startSentinelNotFound, .symbolParityError, .invalidSymbol, .outputBufferTooSmall,
      .malformedTerminator, .longitudinalParityError]) : IsDecodeError e := by
  simp only [List.mem_cons, List.not_mem_nil, or_false] at h
  rcases h with rfl | rfl | rfl | rfl | rfl | rfl <;> exact ⟨nofun, nofun, nofun⟩

theorem resolvable_of_attempt {fmt : Format} {s t : State} {r : AttemptResult}
    (h : attempt (descriptorOf fmt) s = .ok (t, r)) : Resolvable r t := by
  cases r with
  | err e info => exact .of_err (isDecodeError_of_attempt (attempt_err h))
  | ok c =>
    obtain ⟨rfl, -, hended, htwo, hend⟩ := attempt_ok (descriptorOf_wf fmt) h
    rw [descriptorOf_endChar] at hend
    exact .of_ok ⟨htwo, hend, hended.terminator, hended.chars⟩

/-- The validator's answer over written characters and their terminator. -/
theorem resolvable_of_validate {fmt : Format} {s : State} {r : AttemptResult}
    (hterminator : Memory.read? s.out s.cnt.toNat = some 0x00)
    (hchars : ∀ j, j < s.cnt.toNat → (Memory.read? s.out j).isSome = true)
    (h : validate (descriptorOf fmt) s = .ok r) : Resolvable r s := by
  cases r with
  | err e info =>
    refine .of_err (isDecodeError_of_attempt ?_)
    rcases validate_err h with rfl | rfl <;> simp
  | ok c =>
    obtain ⟨rfl, htwo, hend⟩ := validate_ok h
    rw [descriptorOf_endChar] at hend
    exact .of_ok ⟨htwo, hend, hterminator, hchars⟩

/-! ### An attempt in progress -/

/-- What the invariant says of an attempt in progress, but for where the demodulator stands in its run. -/
structure InAttempt (fmt : Format) (s : State) : Prop where
  memory   : MemoryInv s
  record   : RecordInv s
  decoding : s.phase.decoding = true
  found    : s.startFound = true
  engine   : s.engine = .demodulating
  format   : s.fmt = fmt

theorem InAttempt.of_inv {s : State} (h : Inv s) (hengine : s.engine = .demodulating) :
    InAttempt s.fmt s ∧ RunPosition (descriptorOf s.fmt) s := by
  have hrun := h.run hengine
  exact ⟨⟨h.memory, h.record, hrun.decoding, hrun.found, hengine, rfl⟩,
    ⟨hrun.position, hrun.inBuffer, hrun.gathered, hrun.limit, hrun.chars⟩⟩

theorem InAttempt.inv {fmt : Format} {s : State} (h : InAttempt fmt s)
    (hpos : RunPosition (descriptorOf fmt) s) : Inv s where
  memory := h.memory
  record := h.record
  run := fun _ => by
    obtain rfl := h.format
    exact ⟨h.decoding, h.found, hpos.position, hpos.inBuffer, hpos.gathered, hpos.limit, hpos.chars⟩

theorem InAttempt.demodulating_eq {fmt : Format} {s : State} (h : InAttempt fmt s) :
    demodulating s = true :=
  (demodulating_iff s).2 ⟨h.engine, h.decoding⟩

theorem InAttempt.of_shiftIn {fmt : Format} {F : Descriptor} {s u : State} {c : Bool}
    (h : InAttempt fmt s) (hshift : shiftIn F s = .ok (u, c)) : InAttempt fmt u := by
  have hmemory := h.memory.of_shiftIn hshift
  have hrecord := h.record.of_sameButWork h.decoding (shiftIn_frame hshift)
  obtain ⟨b, -, ⟨-, -, rfl⟩ | ⟨-, -, rfl⟩⟩ := shiftIn_cases hshift
  · exact ⟨hmemory, hrecord, h.decoding, h.found, h.engine, h.format⟩
  · exact ⟨hmemory, hrecord, h.decoding, h.found, h.engine, h.format⟩

/-- Fetching a symbol (R63, R159) ends past the symbol, or, at the end of the buffer, inside one. -/
theorem InAttempt.of_gatherSymbol {fmt : Format} {n : Nat} {s u : State} {o : Option (BitVec 8)}
    (h : InAttempt fmt s) (hpos : RunPosition (descriptorOf fmt) s)
    (hgather : gatherSymbol (descriptorOf fmt) n s = .ok (u, o)) :
    InAttempt fmt u ∧ (o = none → RunPosition (descriptorOf fmt) u) ∧
      ∀ sym, o = some sym → SymbolRead (descriptorOf fmt) u := by
  obtain ⟨-, hhigh⟩ := width_bounds_of_wf (descriptorOf_wf fmt)
  induction n generalizing s with
  | zero =>
    cases hgather
    exact ⟨h, fun _ => hpos, nofun⟩
  | succ n ih =>
    unfold gatherSymbol at hgather
    obtain ⟨⟨v, c⟩, hshift, hgather⟩ := except_bind_ok hgather
    cases c with
    | false => exact ih (h.of_shiftIn hshift) (hpos.of_shiftIn_false hhigh hshift) (by simpa using hgather)
    | true =>
      cases hgather
      exact ⟨h.of_shiftIn hshift, nofun, fun _ _ => hpos.of_shiftIn_true hshift⟩

/-- The end of the run: the terminator, the validator, and the resolution. -/
theorem InAttempt.inv_of_concludeRun {fmt : Format} {s t : State} (h : InAttempt fmt s)
    (hchars : ∀ j, j < s.cnt.toNat → (Memory.read? s.out j).isSome = true)
    (hconclude : concludeRun (descriptorOf fmt) s = .ok t) : Inv t := by
  obtain ⟨r, hvalidate, hr⟩ := except_bind_ok hconclude
  have hresolvable : Resolvable r (terminate s) :=
    resolvable_of_validate (Memory.read?_write_same _ _ _)
      (fun j hj => isSome_read?_write (.inr (hchars j hj))) hvalidate
  exact .of_resolveAttempt (h.memory.after_outWriteAtCnt 0) (h.record.of_sameButWork h.decoding rfl)
    h.decoding hresolvable hr

theorem isDecodeError_of_demodSymbol {F : Descriptor} {sym : BitVec 8} {s v : State} {e : ErrCode}
    {info : Nat} (h : demodSymbol F sym s = (v, .raised e info)) : IsDecodeError e := by
  refine isDecodeError_of_attempt ?_
  rcases (demodSymbol_raised h).1 with rfl | rfl | rfl <;> simp

/-- One symbol, just fetched: the run goes on, ends, or is given up. -/
theorem InAttempt.inv_of_symbolTurn {fmt : Format} {sym : BitVec 8} {s t : State}
    (h : InAttempt fmt s) (hread : SymbolRead (descriptorOf fmt) s)
    (hturn : symbolTurn fmt sym s = .next t) : Inv t := by
  obtain ⟨hlow, -⟩ := width_bounds_of_wf (descriptorOf_wf fmt)
  rcases symbolTurn_cases hturn with ⟨hno, -⟩ | ⟨v, turn, -, -, hv, hend⟩
  · exact absurd ⟨h.demodulating_eq, h.format⟩ hno
  · rcases hend with ⟨rfl, rfl⟩ | ⟨rfl, hconclude⟩ | ⟨e, info, rfl, herror⟩
    · have hmemory := h.memory.of_demodSymbol hv
      have hpos := hread.of_demodSymbol_go (by omega) hv
      obtain ⟨-, -, -, ch, -, rfl⟩ := demodSymbol_go hv
      exact InAttempt.inv ⟨hmemory, h.record.of_sameButWork h.decoding rfl, h.decoding, h.found,
        h.engine, h.format⟩ hpos
    · obtain ⟨-, rfl⟩ := demodSymbol_stop hv
      exact h.inv_of_concludeRun hread.chars hconclude
    · have he := isDecodeError_of_demodSymbol hv
      obtain ⟨-, rfl⟩ := demodSymbol_raised hv
      exact .of_resolveAttempt (r := .err e info) h.memory h.record h.decoding (.of_err he) herror

/-- The instruction fetched for an accumulator value is a turn of the demodulator in that format. -/
theorem exec_symbolInstr (fmt : Format) (acc : BitVec 8) (s : State) :
    ∃ sym, exec (symbolInstr fmt acc) s = symbolTurn fmt sym s := by
  cases fmt with
  | num5 => exact ⟨_, exec_decodeSym5 _ s⟩
  | alpha7 => exact ⟨_, exec_decodeSym7 _ s⟩

/-! ### The events -/

/-- The events that write no memory and nothing of the record. -/
theorem Inv.after_register_update {s t : State} (h : Inv s) (hrest : s.engine = .atRest)
    (hcard : t.phase = .capturing → t.card = true)
    (hframe : t = { s with armed := t.armed, fmt := t.fmt, sizeLimit := t.sizeLimit, card := t.card,
                           haz := t.haz, input := t.input }) : Inv t := by
  rw [hframe] at hcard ⊢
  exact .of_atRest (h.memory.congr rfl rfl rfl rfl)
    (h.record.congr rfl hcard rfl rfl rfl rfl rfl rfl) hrest

/-- From `CAPTURING` to `DECODING_FWD` there is no record and no code (R40). -/
theorem RecordInv.unfinished {s : State} (h : RecordInv s)
    (hphase : s.phase = .capturing ∨ s.phase = .captureComplete) :
    s.ok = false ∧ s.errFwd = .noError ∧ s.errRev = .noError := by
  refine ⟨?_, h.noCodeYet (hphase.imp_right .inl)⟩
  rw [h.okSuccess]
  rcases hphase with hp | hp <;> rw [hp] <;> rfl

theorem inv_after_hreset {s : State} (h : Inv s) : Inv (scrambleWork (resetRegisters s)) where
  memory := ⟨h.memory.cfgWf, ⟨Nat.zero_le _, fun _ hi => absurd hi (Nat.not_lt_zero _)⟩, rfl, nofun, rfl,
    nofun⟩
  record := .of_no_code (.inl rfl) rfl rfl rfl
  run := nofun

theorem Inv.of_execBegin {fmt : Format} {s t : State} (h : Inv s) (hrest : s.engine = .atRest)
    (hexec : execBegin fmt s = .next t) : Inv t := by
  rcases execBegin_cases hexec with ⟨-, -, rfl⟩ | ⟨-, rfl⟩ <;>
    exact h.after_register_update hrest h.record.capturingCard rfl

theorem Inv.of_execSetlim {n : BitVec 8} {s t : State} (h : Inv s) (hrest : s.engine = .atRest)
    (hexec : execSetlim n s = .next t) : Inv t := by
  rcases execSetlim_cases hexec with ⟨-, rfl⟩ | ⟨-, rfl⟩ <;>
    exact h.after_register_update hrest h.record.capturingCard rfl

theorem Inv.of_execCardOn {s t : State} (h : Inv s) (hrest : s.engine = .atRest)
    (hexec : execCardOn s = .next t) : Inv t := by
  rcases execCardOn_cases hexec with ⟨-, rfl⟩ | ⟨-, -, rfl⟩ | ⟨-, -, rfl⟩
  · exact h.after_register_update hrest (fun _ => rfl) rfl
  · exact .of_atRest (h.memory.with_len_zero.congr rfl rfl rfl rfl)
      (.of_no_code (.inr (.inl ⟨rfl, rfl⟩)) rfl rfl rfl) hrest
  · exact h.after_register_update hrest (fun _ => rfl) rfl

theorem Inv.of_execCardOff {s t : State} (h : Inv s) (hrest : s.engine = .atRest)
    (hexec : execCardOff s = .next t) : Inv t := by
  rcases execCardOff_cases hexec with ⟨-, hp, rfl⟩ | ⟨hno, rfl⟩
  · obtain ⟨hok, hfwd, hrev⟩ := h.record.unfinished (.inl hp)
    exact .of_atRest (h.memory.congr rfl rfl rfl rfl)
      (.of_no_code (.inr (.inr (.inl rfl))) hok hfwd hrev) hrest
  · exact h.after_register_update hrest (fun hp => absurd ⟨h.record.capturingCard hp, hp⟩ hno)
      rfl

theorem Inv.of_execBit {b : Bit} {s t : State} (h : Inv s) (hrest : s.engine = .atRest)
    (hexec : execBit b s = .next t) : Inv t := by
  rcases execBit_cases hexec with rfl | ⟨-, -, happend⟩ | ⟨-, -, rfl⟩
  · exact h
  · have hframe := append_frame happend
    refine .of_atRest (h.memory.of_append happend) ?_ (by rw [hframe]; exact hrest)
    rw [hframe]
    exact h.record.congr rfl h.record.capturingCard rfl rfl rfl rfl rfl rfl
  · exact h.after_register_update hrest h.record.capturingCard rfl

theorem Inv.of_execStep {s t : State} (h : Inv s) (hrest : s.engine = .atRest)
    (hexec : execStep s = .next t) : Inv t := by
  rcases execStep_cases hexec with ⟨hp, rfl⟩ | ⟨hdecoding, u, r, hattempt, hr⟩ | ⟨-, rfl⟩
  · obtain ⟨hok, hfwd, hrev⟩ := h.record.unfinished (.inr hp)
    exact .of_atRest (h.memory.congr rfl rfl rfl rfl)
      (.of_no_code (.inr (.inr (.inr rfl))) hok hfwd hrev) hrest
  · have hframe := attempt_frame hattempt
    exact .of_resolveAttempt (h.memory.of_attempt hattempt) (h.record.of_sameButWork hdecoding hframe)
      (by rw [hframe.control.1]; exact hdecoding) (resolvable_of_attempt hattempt) hr
  · exact h

/-- Between events every instruction keeps the invariant, class by class; a symbol changes nothing there. -/
theorem Inv.of_exec_atRest {i : Instr} {s t : State} (h : Inv s) (hrest : s.engine = .atRest)
    (hexec : exec i s = .next t) : Inv t := by
  rcases instr_cases i with
    ⟨fmt, rfl⟩ | rfl | ⟨n, rfl⟩ | rfl | rfl | ⟨b, rfl⟩ | rfl | rfl | hsymbol
  · exact h.of_execBegin hrest hexec
  · cases hexec
    exact h.after_register_update hrest h.record.capturingCard rfl
  · exact h.of_execSetlim hrest hexec
  · exact h.of_execCardOn hrest hexec
  · exact h.of_execCardOff hrest hexec
  · exact h.of_execBit hrest hexec
  · exact h.of_execStep hrest hexec
  · cases hexec
    exact inv_after_hreset h
  · obtain ⟨fmt, sym, hturn⟩ := exec_symbol i hsymbol
    rw [hturn] at hexec
    rcases symbolTurn_cases hexec with ⟨-, rfl⟩ | ⟨v, turn, hd, -, -, -⟩
    · exact h
    · have hengine := ((demodulating_iff s).1 hd).1
      rw [hrest] at hengine
      cases hengine

/-! ### The obligations -/

/-- Where no symbol can be read the engine is at rest: in an attempt `STATE` is a decoding state. -/
theorem Inv.engine_atRest {s : State} (h : Inv s) (hd : demodulating s = false) :
    s.engine = .atRest := by
  cases hengine : s.engine with
  | atRest => rfl
  | demodulating =>
    have := (demodulating_iff s).2 ⟨hengine, (h.run hengine).decoding⟩
    rw [hd] at this
    cases this

theorem inv_dropWord {s : State} (h : Inv s) (hrest : s.engine = .atRest) : Inv (dropWord s) :=
  h.after_register_update hrest h.record.capturingCard rfl

/-- Settles O45, by what the step has fetched: nothing, an event, the end of the buffer, or a symbol. -/
theorem everyStepKeepsTheInvariant : Obligations.EveryStepKeepsTheInvariant := by
  intro s t h hstep
  rcases step_cases hstep with
    ⟨-, -, rfl⟩ | ⟨hd, w, i, -, -, hexec⟩ | ⟨hd, u, hfetch, hconclude⟩ | ⟨hd, u, sym, hfetch, hexec⟩
  · exact h
  · have hrest := h.engine_atRest hd
    exact (inv_dropWord h hrest).of_exec_atRest hrest hexec
  · obtain ⟨hattempt, hpos⟩ := InAttempt.of_inv h ((demodulating_iff s).1 hd).1
    obtain ⟨hu, hend, -⟩ := hattempt.of_gatherSymbol hpos hfetch
    rw [hu.format] at hconclude
    exact hu.inv_of_concludeRun (hend rfl).chars hconclude
  · obtain ⟨hattempt, hpos⟩ := InAttempt.of_inv h ((demodulating_iff s).1 hd).1
    obtain ⟨hu, -, hread⟩ := hattempt.of_gatherSymbol hpos hfetch
    obtain ⟨acc, hturn⟩ := exec_symbolInstr s.fmt sym u
    rw [hturn] at hexec
    exact hu.inv_of_symbolTurn (hread sym rfl) hexec

/-- Settles O44: at reset nothing is recorded and no cell is written. -/
theorem resetMeetsTheInvariant : Obligations.ResetMeetsTheInvariant where
  memory := ⟨by decide, ⟨Nat.zero_le _, fun _ hi => absurd hi (Nat.not_lt_zero _)⟩, rfl, nofun, rfl, nofun⟩
  record := .of_no_code (.inl rfl) rfl rfl rfl
  run := nofun

/-- Settles O58: each port is read off the register it shows; a code determines its value. -/
theorem portsShowTheRegisters : Obligations.PortsShowTheRegisters := by
  intro s
  have hphase : ∀ p, ∀ q ∈ Claims.stateCodes, p = q.1 ↔ phaseCode p = q.2 := by
    intro p
    cases p <;> decide
  have hdir : ∀ d, ∀ q ∈ Claims.dirCodes, d = q.1 ↔ directionCode d = q.2 := by
    intro d
    cases d <;> decide
  have herror : ∀ e, ∀ q ∈ Claims.errCodes, e = q.1 ↔ errorCode e = q.2 := by
    intro e
    cases e <;> decide
  have hdone : ∀ p : Phase, p.terminal = true ↔ p ∈ [Phase.successFwd, .successRev, .failure] := by
    intro p
    cases p <;> decide
  refine ⟨rfl, hphase _, hdir _, herror _, herror _, hdone _, rfl, rfl, ?_, ?_, ?_, ?_, rfl, rfl⟩
  · intro hok
    exact if_pos hok
  · intro hok hfailure
    simp [portResult, hok, hfailure]
  · intro hok hfailure
    simp [portResult, hok, hfailure]
  · simp [portNoCard]

theorem portOutData_of_read? {s : State} {j : BitVec 8} {c : Char8} (hok : s.ok = true)
    (hj : j ≤ s.count) (hread : Memory.read? s.out j.toNat = some c) : portOutData s j = c := by
  rw [portOutData, if_pos ⟨hok, hj⟩, hread]
  rfl

/-- Settles O59: the record's cells up to the terminator are written, and the port shows them. -/
theorem outDataShowsTheRecord : Obligations.OutDataShowsTheRecord := by
  intro s h hok
  obtain ⟨-, -, hterminator, hchars⟩ := h.record.record hok
  refine ⟨portOutData_of_read? hok (BitVec.le_refl _) hterminator, fun j hj => ?_⟩
  have hwritten : (Memory.read? s.out j.toNat).isSome = true := by
    rcases Nat.lt_or_eq_of_le (BitVec.le_def.1 hj) with hlt | heq
    · exact hchars _ hlt
    · rw [heq, hterminator]
      rfl
  obtain ⟨c, hc⟩ := Option.isSome_iff_exists.1 hwritten
  rw [portOutData_of_read? hok hj hc, hc]

end Sys2Proof.Machine
end

section
/-! SUPPORT. Over a readable buffer every operation answers (R72): `REVERSE`, the resolution of an attempt, the
symbols of an attempt in progress, and every instruction between events. -/

namespace Sys2Proof.Machine

/-! ### `REVERSE` and the resolution of an attempt -/

theorem Readable.write_bits {s : State} (h : Readable s) (i : Nat) (v : Bit) :
    Readable { s with bits := Memory.write s.bits i v } where
  lenCap := h.lenCap
  cells _ hk := isSome_read?_write (.inr (h.cells _ hk))

theorem bitWrite_of_lt {s : State} {i : Nat} (hi : i < s.cfg.bufCap) (v : Bit) :
    bitWrite s i v = .ok { s with bits := Memory.write s.bits i v } :=
  if_pos hi

theorem swapPair_answers {s : State} (h : Readable s) {i : Nat} (hi : i < s.len.toNat) :
    ∃ t, swapPair s i = .ok t ∧ Readable t := by
  have hcap := h.lenCap
  obtain ⟨a, ha, -⟩ := h.bitRead hi
  obtain ⟨b, hb, -⟩ := h.bitRead (i := s.len.toNat - 1 - i) (by omega)
  refine ⟨_, ?_, (h.write_bits i b).write_bits (s.len.toNat - 1 - i) a⟩
  unfold swapPair
  rw [ha, except_ok_bind, hb, except_ok_bind, bitWrite_of_lt (by omega), except_ok_bind,
    bitWrite_of_lt (by simp only; omega)]

theorem reversePairs_answers {s : State} (h : Readable s) {n : Nat} (hn : n ≤ s.len.toNat / 2) :
    ∃ t, reversePairs n s = .ok t ∧ Readable t := by
  induction n with
  | zero => exact ⟨s, rfl, h⟩
  | succ n ih =>
    obtain ⟨u, hu, hread⟩ := ih (by omega)
    have hlen : u.len = s.len := by rw [reversePairs_frame hu]
    unfold reversePairs
    rw [hu, except_ok_bind]
    exact swapPair_answers hread (by rw [hlen]; omega)

theorem reverse_answers {s : State} (h : Readable s) : ∃ t, reverse s = .ok t := by
  obtain ⟨t, ht, -⟩ := reversePairs_answers h le_rfl
  exact ⟨t, ht⟩

theorem takeError_answers (e : ErrCode) {s : State} (h : Readable s) : ∃ t, takeError e s = .ok t := by
  obtain ⟨u, hu⟩ := reverse_answers (s := recordFwdError e s) ⟨h.lenCap, h.cells⟩
  unfold takeError
  cases s.phase
  case decodingFwd => exact ⟨enterReversed u, by simp only [hu, except_ok_bind]⟩
  all_goals exact ⟨_, rfl⟩

theorem resolveAttempt_answers (r : AttemptResult) {s : State} (h : Readable s) :
    ∃ t, resolveAttempt r s = .ok t := by
  cases r with
  | ok c => exact ⟨_, rfl⟩
  | err e info => exact takeError_answers e h

theorem runAttempt_answers {F : Descriptor} (hF : F.wf = true) {s : State} (h : Readable s) :
    ∃ t, runAttempt F s = .ok t := by
  obtain ⟨u, r, hu⟩ := attempt_answers hF h
  unfold runAttempt
  rw [hu, except_ok_bind]
  exact resolveAttempt_answers r (h.of_sameButWork (attempt_frame hu))

/-! ### The symbols of an attempt in progress -/

theorem RunPosition.runReadable {F : Descriptor} {s : State} (h : RunPosition F s) (hread : Readable s) :
    RunReadable F s where
  buffer := hread
  inside := by
    have hposition := h.position
    have hbuffer := h.inBuffer
    omega
  chars := h.chars

theorem SymbolRead.runReadable {F : Descriptor} {s : State} (h : SymbolRead F s) (hread : Readable s) :
    RunReadable F s where
  buffer := hread
  inside := by
    have hposition := h.position
    have hbuffer := h.inBuffer
    rw [Nat.succ_mul] at hposition
    omega
  chars := h.chars

theorem RunReadable.after_terminate {F : Descriptor} {s : State} (h : RunReadable F s) :
    RunReadable F (terminate s) where
  buffer := h.buffer.of_sameButWork rfl
  inside := h.inside
  chars j hj := isSome_read?_write (.inr (h.chars j hj))

theorem concludeRun_answers {F : Descriptor} {s : State} (h : RunReadable F s) :
    ∃ t, concludeRun F s = .ok t := by
  obtain ⟨r, hr⟩ := validate_answers h.after_terminate
  unfold concludeRun
  rw [hr, except_ok_bind]
  exact resolveAttempt_answers r h.after_terminate.buffer

/-- One symbol: the run goes on, ends, or is given up. -/
theorem symbolTurn_answers {fmt : Format} (sym : BitVec 8) {s : State}
    (h : RunReadable (descriptorOf fmt) s) : ∃ t, symbolTurn fmt sym s = .next t := by
  unfold symbolTurn
  split
  · rcases hv : demodSymbol (descriptorOf fmt) sym s with ⟨v, turn⟩
    cases turn with
    | go => exact ⟨v, rfl⟩
    | stop =>
      obtain ⟨-, rfl⟩ := demodSymbol_stop hv
      obtain ⟨t, ht⟩ := concludeRun_answers h
      exact ⟨t, by simp only [ht, ofExcept_ok]⟩
    | raised e info =>
      obtain ⟨-, rfl⟩ := demodSymbol_raised hv
      obtain ⟨t, ht⟩ := takeError_answers e h.buffer
      exact ⟨t, by simp only [ht, ofExcept_ok]⟩
  · exact ⟨s, rfl⟩

/-- One bit of a fetch, run forwards. -/
theorem gatherSymbol_succ {F : Descriptor} {n : Nat} {s u : State} {c : Bool}
    (hshift : shiftIn F s = .ok (u, c)) :
    gatherSymbol F (n + 1) s = if c then .ok (u, some u.acc) else gatherSymbol F n u := by
  conv_lhs => unfold gatherSymbol
  rw [hshift, except_ok_bind]

theorem gatherSymbol_answers {F : Descriptor} {n : Nat} {s : State} (hread : Readable s)
    (hleft : s.idx.toNat + n = s.len.toNat) : ∃ u o, gatherSymbol F n s = .ok (u, o) := by
  induction n generalizing s with
  | zero => exact ⟨s, none, rfl⟩
  | succ n ih =>
    obtain ⟨u, c, hshift⟩ := shiftIn_answers F hread (by omega : s.idx.toNat < s.len.toNat)
    obtain ⟨-, hidx, hlen⟩ := shiftIn_moves hshift
    rw [gatherSymbol_succ hshift]
    cases c with
    | true => exact ⟨u, some u.acc, rfl⟩
    | false => exact ih (hread.of_sameButWork (shiftIn_frame hshift)) (by rw [hidx, hlen]; omega)

theorem fetchSymbol_answers (F : Descriptor) {s : State} (hread : Readable s)
    (hidx : s.idx.toNat ≤ s.len.toNat) : ∃ u o, fetchSymbol F s = .ok (u, o) :=
  gatherSymbol_answers hread (by omega)

/-- A fetch writes working registers only. -/
theorem gatherSymbol_frame {F : Descriptor} {n : Nat} {s u : State} {o : Option (BitVec 8)}
    (h : gatherSymbol F n s = .ok (u, o)) : SameButWork s u := by
  induction n generalizing s with
  | zero =>
    cases h
    exact .refl _
  | succ n ih =>
    obtain ⟨⟨v, c⟩, hshift, -⟩ := except_bind_ok h
    rw [gatherSymbol_succ hshift] at h
    cases c with
    | true =>
      cases h
      exact shiftIn_frame hshift
    | false => exact (shiftIn_frame hshift).trans (ih h)

/-! ### The instructions between events -/

theorem execBit_answers (b : Bit) (s : State) : ∃ t, execBit b s = .next t := by
  obtain ⟨t, ht⟩ : ∃ t, append b s = .ok t := ⟨_, append_eq b s⟩
  unfold execBit
  split
  · exact ⟨_, rfl⟩
  · cases s.phase
    case capturing => exact ⟨t, by simp only [ht, ofExcept_ok]⟩
    all_goals exact ⟨_, rfl⟩

theorem execStep_answers {s : State} (h : Readable s) : ∃ t, execStep s = .next t := by
  obtain ⟨t, ht⟩ := runAttempt_answers (descriptorOf_wf s.fmt) h
  unfold execStep
  cases s.phase
  case decodingFwd | decodingRev => exact ⟨t, by simp only [ht, ofExcept_ok]⟩
  all_goals exact ⟨_, rfl⟩

theorem symbolTurn_atRest (fmt : Format) (sym : BitVec 8) {s : State} (hrest : s.engine = .atRest) :
    symbolTurn fmt sym s = .next s := by
  simp [symbolTurn, demodulating, hrest]

/-- Between events every instruction answers a next state: only `BIT` and `STEP` access the buffer. -/
theorem exec_answers (i : Instr) {s : State} (h : Readable s) (hrest : s.engine = .atRest) :
    ∃ t, exec i s = .next t := by
  rcases instr_cases i with
    ⟨fmt, rfl⟩ | rfl | ⟨n, rfl⟩ | rfl | rfl | ⟨b, rfl⟩ | rfl | rfl | hsymbol
  · show ∃ t, execBegin fmt s = .next t
    unfold execBegin
    split <;> exact ⟨_, rfl⟩
  · exact ⟨_, rfl⟩
  · show ∃ t, execSetlim n s = .next t
    unfold execSetlim
    split <;> exact ⟨_, rfl⟩
  · show ∃ t, execCardOn s = .next t
    unfold execCardOn
    split
    · exact ⟨_, rfl⟩
    · split <;> exact ⟨_, rfl⟩
  · show ∃ t, execCardOff s = .next t
    unfold execCardOff
    split <;> exact ⟨_, rfl⟩
  · exact execBit_answers b s
  · exact execStep_answers h
  · exact ⟨_, rfl⟩
  · obtain ⟨fmt, sym, hturn⟩ := exec_symbol i hsymbol
    exact ⟨s, (hturn s).trans (symbolTurn_atRest fmt sym hrest)⟩

end Sys2Proof.Machine
end

section
/-! SUPPORT. The obligations of 20_memory about whole runs: from a state that meets the invariant a step goes on
or refuses an invalid word, never faults (R72, R93), and so does every run. -/

namespace Sys2Proof.Machine

/-! ### One step -/

theorem step_of_fetchSymbol_none {s u : State} (hd : demodulating s = true)
    (hfetch : fetchSymbol (descriptorOf s.fmt) s = .ok (u, none)) :
    step s = ofExcept (concludeRun (descriptorOf u.fmt) u) := by
  simp [step, fetch, hd, fetchFromBuffer, hfetch]

theorem step_of_fetchSymbol_some {s u : State} {sym : BitVec 8} (hd : demodulating s = true)
    (hfetch : fetchSymbol (descriptorOf s.fmt) s = .ok (u, some sym)) :
    step s = exec (symbolInstr s.fmt sym) u := by
  simp [step, fetch, hd, fetchFromBuffer, hfetch]

theorem step_of_invalid_word {s : State} {w : EventWord} {rest : List EventWord} {r : Reject}
    (hd : demodulating s = false) (hin : s.input = w :: rest) (hw : decodeEvent w = .error r) :
    step s = .refused (.invalidEventWord w) := by
  simp [step, fetch, hd, fetchEvent, hin, hw]

/-- Inside an attempt the step runs a symbol or ends the run, within the buffer. -/
theorem Inv.step_answers_demodulating {s : State} (h : Inv s) (hd : demodulating s = true) :
    ∃ t, step s = .next t := by
  obtain ⟨hattempt, hpos⟩ := InAttempt.of_inv h ((demodulating_iff s).1 hd).1
  obtain ⟨u, o, hfetch⟩ :=
    fetchSymbol_answers (descriptorOf s.fmt) h.memory.readable hpos.inBuffer
  obtain ⟨hu, hend, hread⟩ := hattempt.of_gatherSymbol hpos hfetch
  cases o with
  | none =>
    obtain ⟨t, ht⟩ := concludeRun_answers ((hend rfl).runReadable hu.memory.readable)
    exact ⟨t, by rw [step_of_fetchSymbol_none hd hfetch, hu.format, ht, ofExcept_ok]⟩
  | some sym =>
    obtain ⟨acc, hturn⟩ := exec_symbolInstr s.fmt sym u
    rw [step_of_fetchSymbol_some hd hfetch, hturn]
    exact symbolTurn_answers acc ((hread sym rfl).runReadable hu.memory.readable)

/-- Everything a step can answer from a state that meets the invariant: a next state, or the refusal of a
word that spells no event. -/
theorem Inv.step_answers {s : State} (h : Inv s) :
    (∃ t, step s = .next t) ∨
    ∃ w rest r, s.input = w :: rest ∧ decodeEvent w = .error r ∧
      step s = .refused (.invalidEventWord w) := by
  cases hd : demodulating s with
  | true => exact .inl (h.step_answers_demodulating hd)
  | false =>
    cases hin : s.input with
    | nil => exact .inl ⟨s, stepWaitsWithoutAnEvent s hd hin⟩
    | cons w rest =>
      cases hw : decodeEvent w with
      | error r => exact .inr ⟨w, rest, r, rfl, hw, step_of_invalid_word hd hin hw⟩
      | ok i =>
        rw [stepRunsTheNextEvent s w rest i hd hin hw]
        exact .inl (exec_answers i ⟨h.memory.readable.lenCap, h.memory.readable.cells⟩
          (h.engine_atRest hd))

/-! ### The schedule -/

/-- A step takes words off the schedule and puts none on it (log 1). -/
theorem step_input_suffix {s t : State} (h : step s = .next t) : t.input <:+ s.input := by
  rcases step_cases h with
    ⟨-, -, rfl⟩ | ⟨-, w, i, -, -, hexec⟩ | ⟨-, u, hfetch, hconclude⟩ | ⟨-, u, sym, hfetch, hexec⟩
  · exact List.suffix_rfl
  · rw [(SameParameterAndSchedule.of_exec hexec).2]
    exact List.tail_suffix s.input
  · rw [(SameParameterAndSchedule.of_concludeRun hconclude).2,
      (SameParameterAndSchedule.of_sameButWork (gatherSymbol_frame hfetch)).2]
  · rw [(SameParameterAndSchedule.of_exec hexec).2,
      (SameParameterAndSchedule.of_sameButWork (gatherSymbol_frame hfetch)).2]

theorem traceWf_of_suffix {ws vs : List EventWord} (h : traceWf ws = true) (hsuffix : vs <:+ ws) :
    traceWf vs = true := by
  rw [traceWf, List.all_eq_true] at h ⊢
  exact fun w hw => h w (hsuffix.subset hw)

theorem decodeEvent_of_traceWf {w : EventWord} {rest : List EventWord}
    (h : traceWf (w :: rest) = true) : ∃ i, decodeEvent w = .ok i := by
  cases hw : decodeEvent w with
  | ok i => exact ⟨i, rfl⟩
  | error r => simp [traceWf, hw] at h

/-- With a well-formed schedule nothing is refused either, and the step keeps invariant and schedule. -/
theorem Inv.step_next {s : State} (h : Inv s) (hin : traceWf s.input = true) :
    ∃ t, step s = .next t ∧ Inv t ∧ traceWf t.input = true := by
  rcases h.step_answers with ⟨t, ht⟩ | ⟨w, rest, r, hcons, hw, -⟩
  · exact ⟨t, ht, everyStepKeepsTheInvariant s t h ht, traceWf_of_suffix hin (step_input_suffix ht)⟩
  · rw [hcons] at hin
    obtain ⟨i, hi⟩ := decodeEvent_of_traceWf hin
    rw [hw] at hi
    cases hi

/-! ### Runs -/

theorem core_run_succ_of_next {s t : State} (h : step s = .next t) (n : Nat) :
    Sys2Proof.core.run (n + 1) s = Sys2Proof.core.run n t := by
  have hstep : Sys2Proof.core.step s = .next t := h
  simp only [Host.Core.run, hstep]

theorem core_run_succ_of_refused {s : State} {r : Refusal} (h : step s = .refused r) (n : Nat) :
    Sys2Proof.core.run (n + 1) s = .refused r := by
  have hstep : Sys2Proof.core.step s = .refused r := h
  simp only [Host.Core.run, hstep]

theorem Inv.step_ne_fault {s : State} (h : Inv s) (f : Fault) : step s ≠ .fault f := by
  rcases h.step_answers with ⟨t, ht⟩ | ⟨w, rest, r, -, -, hrefused⟩
  · rw [ht]
    nofun
  · rw [hrefused]
    nofun

theorem Inv.run_ne_fault {s : State} (h : Inv s) (n : Nat) (f : Fault) :
    Sys2Proof.core.run n s ≠ .fault f := by
  induction n generalizing s with
  | zero => nofun
  | succ n ih =>
    rcases h.step_answers with ⟨t, ht⟩ | ⟨w, rest, r, -, -, hrefused⟩
    · rw [core_run_succ_of_next ht]
      exact ih (everyStepKeepsTheInvariant s t h ht)
    · rw [core_run_succ_of_refused hrefused]
      nofun

/-- Settles O46: a step answers or refuses, and the invariant carries this along every run. -/
theorem noStepFaults : Obligations.NoStepFaults :=
  fun _ h => ⟨h.step_ne_fault, fun _ k _ f => h.run_ne_fault k f⟩

/-- Settles O47, by induction on the number of steps: each keeps the invariant and a well-formed schedule. -/
theorem wellFormedTracesNeverStop : Obligations.WellFormedTracesNeverStop := by
  intro n
  induction n with
  | zero => exact fun s h _ => ⟨s, rfl, h⟩
  | succ n ih =>
    intro s h hin
    obtain ⟨t, ht, hinv, hin'⟩ := h.step_next hin
    rw [core_run_succ_of_next ht]
    exact ih t hinv hin'

end Sys2Proof.Machine
end

section
/-! SUPPORT. The obligations of 20_memory about one step inside an attempt: which symbol it fetches (R63, R95,
R151), and that an incomplete symbol ends the run (R65, R159). -/

namespace Sys2Proof.Machine

/-! ### One bit, run forwards -/

theorem shiftIn_of_last_bit {F : Descriptor} {s : State} {b : Bit} (hb : bitRead s s.idx.toNat = .ok b)
    (hw : s.bitcnt.toNat + 1 = F.width) :
    shiftIn F s = .ok (symbolComplete (accUpdate F s.acc b) s, true) := by
  unfold shiftIn
  rw [hb, except_ok_bind, if_pos hw]

theorem shiftIn_of_earlier_bit {F : Descriptor} {s : State} {b : Bit}
    (hb : bitRead s s.idx.toNat = .ok b) (hw : s.bitcnt.toNat + 1 ≠ F.width) :
    shiftIn F s = .ok (gatherOn (accUpdate F s.acc b) s, false) := by
  unfold shiftIn
  rw [hb, except_ok_bind, if_neg hw]

/-! ### The symbol at `IDX` -/

/-- `BITCNT` bits of the symbol that begins at index `p` have been read, and stand in the accumulator below
whatever an earlier symbol left (R95). -/
structure Gathered (F : Descriptor) (p : Nat) (s : State) : Prop where
  position : s.idx.toNat = p + s.bitcnt.toNat
  value    : s.acc.toNat % 2 ^ s.bitcnt.toNat = windowValue s.bits p s.bitcnt.toNat
  partly   : s.bitcnt.toNat < F.width

/-- Before its first bit nothing of a symbol has been read. -/
theorem Gathered.at_boundary {F : Descriptor} (hF : F.wf = true) {s : State} (h : s.bitcnt = 0) :
    Gathered F s.idx.toNat s := by
  obtain ⟨hlow, -⟩ := width_bounds_of_wf hF
  have hzero : s.bitcnt.toNat = 0 := by rw [h]; rfl
  refine ⟨?_, ?_, ?_⟩
  · rw [hzero, Nat.add_zero]
  · rw [hzero, pow_zero, Nat.mod_one, windowValue_zero]
  · omega

/-- The accumulator's low bits after the bit at `IDX`: one bit more of the symbol. -/
theorem Gathered.value_next {F : Descriptor} (hF : F.wf = true) {p : Nat} {s : State}
    (h : Gathered F p s) {b : Bit} (hb : bitRead s s.idx.toNat = .ok b) :
    (accUpdate F s.acc b).toNat % 2 ^ (s.bitcnt.toNat + 1) =
      windowValue s.bits p (s.bitcnt.toNat + 1) := by
  have hdvd : 2 ^ (s.bitcnt.toNat + 1) ∣ 2 ^ F.width := pow_dvd_pow 2 h.partly
  have hread := (bitRead_eq_ok.1 hb).2
  rw [h.position] at hread
  rw [accUpdate_toNat hF, Nat.mod_mod_of_dvd _ hdvd, two_mul_add_mod_pow_succ b.isLt, h.value,
    windowValue_succ, bitAt_of_read? hread]

/-- After the last bit the accumulator is the sum of R63: its mask keeps `F.W` bits (R14). -/
theorem Gathered.acc_complete {F : Descriptor} (hF : F.wf = true) {p : Nat} {s : State}
    (h : Gathered F p s) {b : Bit} (hb : bitRead s s.idx.toNat = .ok b)
    (hw : s.bitcnt.toNat + 1 = F.width) :
    accUpdate F s.acc b = BitVec.ofNat 8 (windowValue s.bits p F.width) := by
  have hvalue := h.value_next hF hb
  rw [hw, accUpdate_toNat hF, Nat.mod_mod, ← accUpdate_toNat hF] at hvalue
  rw [← hvalue, BitVec.ofNat_toNat, BitVec.setWidth_eq]

theorem Gathered.after_gatherOn {F : Descriptor} (hF : F.wf = true) {p : Nat} {s : State}
    (h : Gathered F p s) {b : Bit} (hb : bitRead s s.idx.toNat = .ok b)
    (hw : s.bitcnt.toNat + 1 ≠ F.width) : Gathered F p (gatherOn (accUpdate F s.acc b) s) := by
  obtain ⟨-, hhigh⟩ := width_bounds_of_wf hF
  have hpartly := h.partly
  have hbitcnt : (s.bitcnt + 1).toNat = s.bitcnt.toNat + 1 := toNat_add_one (by omega)
  have hidx := toNat_add_one_of_lt (bitRead_eq_ok.1 hb).1
  refine ⟨?_, ?_, ?_⟩
  · rw [gatherOn_idx, gatherOn_bitcnt, hidx, hbitcnt, h.position, Nat.add_assoc]
  · rw [gatherOn_acc, gatherOn_bits, gatherOn_bitcnt, hbitcnt]
    exact h.value_next hF hb
  · rw [gatherOn_bitcnt, hbitcnt]
    omega

/-- The state after the symbol that begins at index `p` has been read. -/
def symbolFetched (F : Descriptor) (p : Nat) (s : State) : State :=
  { s with
    acc := BitVec.ofNat 8 (windowValue s.bits p F.width), bitcnt := 0, idx := BitVec.ofNat 16 (p + F.width) }

theorem Gathered.symbolComplete_eq {F : Descriptor} (hF : F.wf = true) {p : Nat} {s : State}
    (h : Gathered F p s) {b : Bit} (hb : bitRead s s.idx.toNat = .ok b)
    (hw : s.bitcnt.toNat + 1 = F.width) :
    symbolComplete (accUpdate F s.acc b) s = symbolFetched F p s := by
  have hidx : s.idx + 1 = BitVec.ofNat 16 (p + F.width) := by
    rw [← hw, ← Nat.add_assoc, ← h.position, BitVec.ofNat_add, BitVec.ofNat_toNat, BitVec.setWidth_eq]
    rfl
  unfold symbolComplete symbolFetched
  rw [h.acc_complete hF hb hw, hidx]

/-- A fetch that finds `F.W` bits answers the symbol they spell. -/
theorem Gathered.gatherSymbol_eq {F : Descriptor} (hF : F.wf = true) {p n : Nat} {s : State}
    (h : Gathered F p s) (hread : Readable s) (hleft : s.idx.toNat + n = s.len.toNat)
    (hroom : p + F.width ≤ s.len.toNat) :
    gatherSymbol F n s =
      .ok (symbolFetched F p s, some (BitVec.ofNat 8 (windowValue s.bits p F.width))) := by
  have hposition := h.position
  have hpartly := h.partly
  induction n generalizing s with
  | zero => omega
  | succ n ih =>
    have hlt : s.idx.toNat < s.len.toNat := by omega
    obtain ⟨b, hb, -⟩ := hread.bitRead hlt
    by_cases hw : s.bitcnt.toNat + 1 = F.width
    · rw [gatherSymbol_succ (shiftIn_of_last_bit hb hw), h.symbolComplete_eq hF hb hw]
      rfl
    · have hnext := h.after_gatherOn hF hb hw
      rw [gatherSymbol_succ (shiftIn_of_earlier_bit hb hw)]
      refine ih hnext (hread.of_sameButWork rfl) ?_ hroom hnext.position hnext.partly
      rw [gatherOn_idx, gatherOn_len, toNat_add_one_of_lt hlt]
      omega

/-- Settles O11: the fetch reads the `F.W` bits at `IDX`, and the step executes their symbol. -/
theorem stepRunsTheSymbolAtIdx : Obligations.StepRunsTheSymbolAtIdx := by
  intro s hd hread hbitcnt hroom
  have hF := descriptorOf_wf s.fmt
  have hfetch := (Gathered.at_boundary hF hbitcnt).gatherSymbol_eq hF hread
    (n := s.len.toNat - s.idx.toNat) (by omega) hroom
  rw [step_of_fetchSymbol_some hd hfetch]
  unfold symbolFetched
  rw [BitVec.ofNat_add, BitVec.ofNat_toNat, BitVec.setWidth_eq, ← hbitcnt]

/-! ### The end of the buffer -/

/-- A fetch that finds too few bits takes them all in and answers no symbol. -/
theorem gatherSymbol_short {F : Descriptor} (hwidth : F.width ≤ 8) {n : Nat} {s : State}
    (hread : Readable s) (hleft : s.idx.toNat + n = s.len.toNat) (hshort : s.bitcnt.toNat + n < F.width) :
    ∃ a b, gatherSymbol F n s = .ok ({ s with acc := a, bitcnt := b, idx := s.len }, none) := by
  induction n generalizing s with
  | zero =>
    have hidx : s.idx = s.len := BitVec.eq_of_toNat_eq hleft
    have hend : s = { s with idx := s.len } := congrArg (fun i => { s with idx := i }) hidx
    exact ⟨s.acc, s.bitcnt, congrArg (fun u => Except.ok (u, none)) hend⟩
  | succ n ih =>
    have hlt : s.idx.toNat < s.len.toNat := by omega
    have hbitcnt : (s.bitcnt + 1).toNat = s.bitcnt.toNat + 1 := toNat_add_one (by omega)
    obtain ⟨b, hb, -⟩ := hread.bitRead hlt
    rw [gatherSymbol_succ (shiftIn_of_earlier_bit hb (by omega))]
    refine ih (s := gatherOn (accUpdate F s.acc b) s) (hread.of_sameButWork rfl) ?_ ?_
    · rw [gatherOn_idx, gatherOn_len, toNat_add_one_of_lt hlt]
      omega
    · rw [gatherOn_bitcnt, hbitcnt]
      omega

/-- Settles O12: the fetch answers no symbol, and the step concludes the run. -/
theorem stepEndsTheRunAtTheBufferEnd : Obligations.StepEndsTheRunAtTheBufferEnd := by
  intro s hd hread hbitcnt hidx hshort
  obtain ⟨-, hhigh⟩ := width_bounds_of_wf (descriptorOf_wf s.fmt)
  have hzero : s.bitcnt.toNat = 0 := by rw [hbitcnt]; rfl
  obtain ⟨a, b, hfetch⟩ := gatherSymbol_short hhigh hread
    (n := s.len.toNat - s.idx.toNat) (by omega) (by omega)
  exact ⟨a, b, step_of_fetchSymbol_none hd hfetch⟩

end Sys2Proof.Machine
end

section
/-! SUPPORT. A captured bit string (R70): one bit more, stored or lost, and by induction the whole string. -/

namespace Sys2Proof.Machine

/-- `t` is `s` with the bits `bs` appended as far as the buffer holds them: only `BITS`, `LEN` and `OVF`
change. -/
structure Captured (bs : List Bit) (s t : State) : Prop where
  frame    : t = { s with bits := t.bits, len := t.len, ovf := t.ovf }
  length   : t.len.toNat = min (s.len.toNat + bs.length) s.cfg.bufCap
  stored   : ∀ i, s.len.toNat ≤ i → i < t.len.toNat → Memory.read? t.bits i = bs[i - s.len.toNat]?
  kept     : ∀ i, i < s.len.toNat ∨ t.len.toNat ≤ i → Memory.read? t.bits i = Memory.read? s.bits i
  overflow : t.ovf = true ↔ s.ovf = true ∨ s.cfg.bufCap < s.len.toNat + bs.length

theorem Captured.nil {s : State} (hcap : s.len.toNat ≤ s.cfg.bufCap) : Captured [] s s where
  frame := rfl
  length := by simpa using hcap
  stored := by omega
  kept _ _ := rfl
  overflow := by simp [hcap]

/-- The state after a bit for which there is room (R125). -/
def bitStored (b : Bit) (s : State) : State :=
  { s with bits := Memory.write s.bits s.len.toNat b, len := s.len + 1 }

/-- `BIT` while capturing, in a buffer with room and in a full one (R123, R125, R127). -/
theorem exec_bit_capturing (b : Bit) {s : State} (harmed : s.armed = true) (hphase : s.phase = .capturing) :
    exec (.bit b) s =
      .next (if s.len.toNat < s.cfg.bufCap then bitStored b s else markOverflow s) := by
  show execBit b s = _
  unfold execBit
  rw [if_neg (by simp [harmed]), hphase]
  simp only [append_eq, ofExcept_ok]
  rfl

/-- A bit stored in cell `LEN`, and then the rest of the string. -/
theorem Captured.of_bitStored {b : Bit} {bs : List Bit} {s t : State}
    (hlen : (s.len + 1).toNat = s.len.toNat + 1) (hroom : s.len.toNat < s.cfg.bufCap)
    (h : Captured bs (bitStored b s) t) : Captured (b :: bs) s t := by
  obtain ⟨hframe, hlength, hstored, hkept, hoverflow⟩ := h
  simp only [bitStored, hlen] at hframe hlength hstored hkept hoverflow
  refine ⟨hframe, ?_, fun i hlow hhigh => ?_, fun i hi => ?_, ?_⟩
  · rw [hlength, List.length_cons]
    omega
  · rcases Nat.lt_or_eq_of_le hlow with hlt | rfl
    · have hsub : i - s.len.toNat = i - (s.len.toNat + 1) + 1 := by omega
      rw [hstored i hlt hhigh, hsub, List.getElem?_cons_succ]
    · rw [hkept _ (.inl (Nat.lt_succ_self _)), Memory.read?_write_same, Nat.sub_self,
        List.getElem?_cons_zero]
  · rw [hkept i (by omega), Memory.read?_write_other _ _ (by omega)]
  · rw [hoverflow, List.length_cons, Nat.add_assoc, Nat.add_comm 1]

/-- A bit lost to a full buffer, and then the rest of the string, lost too. -/
theorem Captured.of_markOverflow {b : Bit} {bs : List Bit} {s t : State}
    (hfull : s.len.toNat = s.cfg.bufCap) (h : Captured bs (markOverflow s) t) :
    Captured (b :: bs) s t := by
  obtain ⟨hframe, hlength, -, hkept, hoverflow⟩ := h
  simp only [markOverflow] at hframe hlength hkept hoverflow
  refine ⟨hframe, ?_, fun i hlow hhigh => ?_, hkept, ?_⟩
  · rw [hlength, List.length_cons]
    omega
  · omega
  · rw [hoverflow, List.length_cons]
    simp only [true_or, true_iff]
    omega

/-- Every bit string is captured, whatever the buffer holds already. -/
theorem captureBits_captured {bs : List Bit} {s : State} (hcfg : s.cfg.wf = true)
    (harmed : s.armed = true) (hphase : s.phase = .capturing) (hcap : s.len.toNat ≤ s.cfg.bufCap) :
    ∃ t, Claims.captureBits bs s = .next t ∧ Captured bs s t := by
  induction bs generalizing s with
  | nil => exact ⟨s, rfl, .nil hcap⟩
  | cons b bs ih =>
    have hstep : Claims.captureBits (b :: bs) s =
        andThen (exec (.bit b) s) (Claims.captureBits bs) := rfl
    rw [hstep, exec_bit_capturing b harmed hphase]
    by_cases hroom : s.len.toNat < s.cfg.bufCap
    · have hmax : s.cfg.bufCap ≤ 65535 := by
        simp only [Config.wf, Bool.and_eq_true, decide_eq_true_eq] at hcfg
        exact hcfg.2
      have hlen : (s.len + 1).toNat = s.len.toNat + 1 := toNat_add_one (by omega)
      obtain ⟨t, ht, hcaptured⟩ := ih (s := bitStored b s) hcfg harmed hphase (hlen.le.trans hroom)
      exact ⟨t, by rw [if_pos hroom]; exact ht, hcaptured.of_bitStored hlen hroom⟩
    · obtain ⟨t, ht, hcaptured⟩ := ih (s := markOverflow s) hcfg harmed hphase hcap
      exact ⟨t, by rw [if_neg hroom]; exact ht, hcaptured.of_markOverflow (by omega)⟩

/-- Settles O19: the capture of a string, from the empty buffer. -/
theorem captureKeepsTheFirstBufCapBits : Obligations.CaptureKeepsTheFirstBufCapBits := by
  intro bs s hcfg harmed hphase hempty
  have hzero : s.len.toNat = 0 := by rw [hempty]; rfl
  obtain ⟨t, ht, hframe, hlength, hstored, hkept, hoverflow⟩ :=
    captureBits_captured (bs := bs) hcfg harmed hphase (by omega)
  simp only [hzero, Nat.zero_add, Nat.sub_zero, Nat.zero_le, forall_const, Nat.not_lt_zero,
    false_or] at hlength hstored hkept hoverflow
  rw [hlength] at hstored hkept
  exact ⟨t, ht, hframe, hlength, hstored, hkept, hoverflow⟩

end Sys2Proof.Machine
end

section
/-! SUPPORT. The longitudinal check as an exclusive-or (R64, R172 corner case (b)): the bits of a data value are
the data columns of its symbol, so the parity of a column is a bit of the exclusive-or of the data values. -/

namespace Sys2Proof.Machine

/-! ### The columns -/

theorem columnTotal_succ (F : Descriptor) (s : State) (c n : Nat) :
    columnTotal F s c (n + 1) =
      columnTotal F s c n + bitAt s.bits (s.start.toNat + c + n * F.width) := by
  simp [columnTotal, List.range_succ]

/-- Inside the buffer the sum the check reads is the column's. -/
theorem columnSum_eq {F : Descriptor} {s : State} (hread : Readable s) {c n : Nat} (hc : c < F.width)
    (hinside : s.start.toNat + n * F.width ≤ s.len.toNat) :
    columnSum F s c n = .ok (columnTotal F s c n) := by
  induction n with
  | zero => rfl
  | succ n ih =>
    rw [Nat.succ_mul] at hinside
    obtain ⟨b, hb, hcell⟩ := hread.bitRead (i := s.start.toNat + c + n * F.width) (by omega)
    unfold columnSum
    rw [ih (by omega), except_ok_bind, hb, except_ok_bind, columnTotal_succ, bitAt_of_read? hcell]

/-- One column of the check, run forwards. -/
theorem lrcFrom_of_columnTotal {F : Descriptor} {s : State} (hrun : RunReadable F s) {c : Nat} (n : Nat)
    (hc : c < F.width) :
    lrcFrom F s c (n + 1) = if columnTotal F s c s.cnt.toNat % 2 = 1
      then .ok (.raised .longitudinalParityError c) else lrcFrom F s (c + 1) n := by
  conv_lhs => unfold lrcFrom
  rw [columnSum_eq hrun.buffer hc hrun.inside, except_ok_bind]
  simp [columnOdd]

theorem lrcFrom_pass_iff {F : Descriptor} {s : State} (hrun : RunReadable F s) {c n : Nat}
    (hcolumns : c + n ≤ F.width) :
    lrcFrom F s c n = .ok .pass ↔
      ∀ d, c ≤ d → d < c + n → columnTotal F s d s.cnt.toNat % 2 = 0 := by
  induction n generalizing c with
  | zero => exact ⟨fun _ d hlow hhigh => by omega, fun _ => rfl⟩
  | succ n ih =>
    rw [lrcFrom_of_columnTotal hrun n (by omega)]
    split
    · rename_i hodd
      refine ⟨nofun, fun heven => ?_⟩
      have := heven c le_rfl (by omega)
      omega
    · rename_i hodd
      rw [ih (by omega)]
      refine ⟨fun heven d hlow hhigh => ?_, fun heven d hlow hhigh => heven d (by omega) (by omega)⟩
      rcases Nat.lt_or_eq_of_le hlow with hlt | rfl
      · exact heven d hlt (by omega)
      · omega

/-- The check passes when every data column sums to an even number (R172). -/
theorem lrc_pass_iff {F : Descriptor} {s : State} (hrun : RunReadable F s) :
    lrc F s = .ok .pass ↔ ∀ c, c < F.width - 1 → columnTotal F s c s.cnt.toNat % 2 = 0 := by
  unfold lrc
  rw [lrcFrom_pass_iff hrun (by omega)]
  simp

/-! ### The bits of a data value -/

/-- Bits gathered one by one into a byte. -/
theorem getLsbD_foldl_bits (f : Nat → Bool) {n : Nat} (hn : n ≤ 8) (c : Nat) :
    ((List.range n).foldl (fun r i => r ||| (BitVec.ofBool (f i)).setWidth 8 <<< i) (0 : BitVec 8)).getLsbD c
      = (decide (c < n) && f c) := by
  induction n with
  | zero => simp
  | succ n ih =>
    rw [List.range_succ, List.foldl_append, List.foldl_cons, List.foldl_nil, BitVec.getLsbD_or,
      ih (by omega), BitVec.getLsbD_shiftLeft, BitVec.getLsbD_setWidth, BitVec.getLsbD_ofBool]
    rcases Nat.lt_trichotomy c n with hlt | rfl | hgt
    · simp [hlt, Nat.lt_succ_of_lt hlt]
    · simp [show c < 8 by omega]
    · simp [show ¬ c < n by omega, show ¬ c < n + 1 by omega, show c - n ≠ 0 by omega]

/-- `rev_n` as the spec writes it (R13). -/
theorem getLsbD_rev {n : Nat} (hn : n ≤ 8) (v : BitVec 8) (c : Nat) :
    (rev n v).getLsbD c = (decide (c < n) && v.getLsbD (n - 1 - c)) :=
  getLsbD_foldl_bits (fun i => v.getLsbD (n - 1 - i)) hn c

/-- Bit `k` of a window, counted from its earliest bit. -/
theorem testBit_windowValue (m : Cells 1) (p : Nat) {w k : Nat} (hk : k < w) :
    (windowValue m p w).testBit (w - 1 - k) = decide (bitAt m (p + k) = 1) := by
  have hw : w = k + 1 + (w - 1 - k) := by omega
  have hhigh : windowValue m p w / 2 ^ (w - 1 - k) = windowValue m p (k + 1) := by
    conv_lhs => rw [hw, windowValue_add, ← hw]
    rw [Nat.add_comm, Nat.add_mul_div_right _ _ (Nat.two_pow_pos _),
      Nat.div_eq_of_lt (windowValue_lt _ _ _), Nat.zero_add]
  have hbit := bitAt_lt_two m (p + k)
  rw [Nat.testBit_eq_decide_div_mod_eq, hhigh, windowValue_succ]
  congr 1
  rw [eq_iff_iff]
  omega

/-- Bit `c` of the data value of symbol `k` is the symbol's bit in column `c` (R64). -/
theorem getLsbD_dataValue {F : Descriptor} (hF : F.wf = true) (s : State) (k c : Nat) :
    (dataValue F.width (symbolAt F s k)).getLsbD c =
      (decide (c < F.width - 1) && decide (bitAt s.bits (s.start.toNat + c + k * F.width) = 1)) := by
  obtain ⟨hlow, hhigh⟩ := width_bounds_of_wf hF
  unfold dataValue symbolAt
  rw [getLsbD_rev (by omega)]
  by_cases hc : c < F.width - 1
  · have hindex : 1 + (F.width - 1 - 1 - c) = F.width - 1 - c := by omega
    have hcell : s.start.toNat + k * F.width + c = s.start.toNat + c + k * F.width := by omega
    rw [BitVec.getLsbD_ushiftRight, hindex, BitVec.getLsbD_ofNat, testBit_windowValue _ _ (by omega),
      hcell]
    simp [show F.width - 1 - c < 8 by omega]
  · simp [hc]

/-! ### The exclusive-or of the data values -/

/-- The exclusive-or of the data values of the first `n` symbols of the run. -/
def dataXor (F : Descriptor) (s : State) (n : Nat) : BitVec 8 :=
  (List.range n).foldl (fun d k => d ^^^ dataValue F.width (symbolAt F s k)) 0

theorem dataXor_succ (F : Descriptor) (s : State) (n : Nat) :
    dataXor F s (n + 1) = dataXor F s n ^^^ dataValue F.width (symbolAt F s n) := by
  simp [dataXor, List.range_succ]

/-- Its bits are the parities of the data columns. -/
theorem getLsbD_dataXor {F : Descriptor} (hF : F.wf = true) (s : State) (n c : Nat) :
    (dataXor F s n).getLsbD c =
      (decide (c < F.width - 1) && decide (columnTotal F s c n % 2 = 1)) := by
  induction n with
  | zero => simp [dataXor, columnTotal]
  | succ n ih =>
    have hbit := bitAt_lt_two s.bits (s.start.toNat + c + n * F.width)
    rw [dataXor_succ, BitVec.getLsbD_xor, ih, getLsbD_dataValue hF, columnTotal_succ,
      ← Bool.and_xor_distrib_left]
    congr 1
    rw [Bool.eq_iff_iff, Bool.xor_iff_ne, ne_eq, decide_eq_decide, decide_eq_true_eq]
    omega

/-- The data values of a run cancel when every data column is even. -/
theorem dataXor_eq_zero_iff {F : Descriptor} (hF : F.wf = true) (s : State) (n : Nat) :
    dataXor F s n = 0 ↔ ∀ c, c < F.width - 1 → columnTotal F s c n % 2 = 0 := by
  constructor
  · intro hzero c hc
    have hbit := getLsbD_dataXor hF s n c
    rw [hzero] at hbit
    simpa [hc] using hbit
  · intro heven
    refine BitVec.eq_of_getLsbD_eq fun c _ => ?_
    rw [getLsbD_dataXor hF]
    by_cases hc : c < F.width - 1
    · simp [heven c hc]
    · simp [hc]

/-- Settles O30: the exclusive-or over the whole run is 0 exactly when the trailer cancels the rest. -/
theorem lrcPassesWhenTheTrailerIsTheExclusiveOr :
    Obligations.LrcPassesWhenTheTrailerIsTheExclusiveOr := by
  intro fmt s hrun hcnt
  have hsplit := dataXor_succ (descriptorOf fmt) s (s.cnt.toNat - 1)
  rw [Nat.sub_add_cancel hcnt] at hsplit
  rw [lrc_pass_iff hrun, ← dataXor_eq_zero_iff (descriptorOf_wf fmt), hsplit]
  exact BitVec.xor_eq_zero_iff.trans eq_comm

end Sys2Proof.Machine
end

section
/-! SUPPORT. The event table (R92, R93) as a table: the decoder answers the first row that matches, no word
matches two rows, and a row's operands are spelled in the bits its mask leaves out. -/

namespace Sys2Proof

/-! ### The rows -/

/-- A row of the event table (R92): the words with `(w & mask) == value` spell the event, whose operand is
read from the word. -/
structure EventRow where
  mask  : EventWord
  value : EventWord
  event : EventWord → Instr

/-- The eight rows, in the order in which the decoder tries them. -/
def eventRows : List EventRow :=
  [ ⟨0xFFFE, 0x1000, fun w => .beginFmt (fmtField w)⟩, ⟨0xFFFF, 0x2000, fun _ => .stop⟩,
    ⟨0xFF00, 0x3000, fun w => .setlim (limitField w)⟩, ⟨0xFFFF, 0x4000, fun _ => .cardOn⟩,
    ⟨0xFFFF, 0x5000, fun _ => .cardOff⟩, ⟨0xFFFE, 0x6000, fun w => .bit (bitField w)⟩,
    ⟨0xFFFF, 0x7000, fun _ => .step⟩, ⟨0xFFFF, 0xF000, fun _ => .hreset⟩ ]

/-- The event of the first of the rows that matches; a word that matches none is rejected by name (R93). -/
def decodeByRows (w : EventWord) : List EventRow → Except Reject Instr
  | [] => if legalOp (opField w) then .error (.mustBeZero w) else .error (.illegalOp w)
  | r :: rows => if rowMatches r.mask r.value w then .ok (r.event w) else decodeByRows w rows

theorem decodeEvent_eq_decodeByRows (w : EventWord) : decodeEvent w = decodeByRows w eventRows := rfl

theorem rowMatches_iff {mask value w : EventWord} :
    rowMatches mask value w = true ↔ w &&& mask = value := by
  simp [rowMatches]

/-- What a search through the rows can answer. -/
theorem decodeByRows_cases (w : EventWord) (rows : List EventRow) :
    (∃ r ∈ rows, w &&& r.mask = r.value ∧ decodeByRows w rows = .ok (r.event w)) ∨
    (∀ r ∈ rows, w &&& r.mask ≠ r.value) ∧ ∃ e, decodeByRows w rows = .error e := by
  induction rows with
  | nil =>
    refine .inr ⟨nofun, ?_⟩
    unfold decodeByRows
    split <;> exact ⟨_, rfl⟩
  | cons r rows ih =>
    unfold decodeByRows
    by_cases hr : w &&& r.mask = r.value
    · exact .inl ⟨r, List.mem_cons_self, hr, if_pos (rowMatches_iff.2 hr)⟩
    · rw [if_neg (mt rowMatches_iff.1 hr)]
      rcases ih with ⟨q, hq, hmatch, hok⟩ | ⟨hnone, herror⟩
      · exact .inl ⟨q, List.mem_cons_of_mem r hq, hmatch, hok⟩
      · exact .inr ⟨List.forall_mem_cons.2 ⟨hr, hnone⟩, herror⟩

/-! ### No word matches two rows -/

/-- Every mask holds the field `OP`, so a matching word has the row's `OP` (R91). -/
theorem op_of_matches {r : EventRow} (hr : r ∈ eventRows) {w : EventWord}
    (h : w &&& r.mask = r.value) : w &&& 0xF000 = r.value &&& 0xF000 := by
  have hmasks : ∀ r ∈ eventRows, r.mask &&& 0xF000 = 0xF000 := by decide
  rw [← h, BitVec.and_assoc, hmasks r hr]

theorem eventRows_ops_nodup : (eventRows.map fun r => r.value &&& 0xF000).Nodup := by decide

theorem eventRow_unique {r q : EventRow} (hr : r ∈ eventRows) (hq : q ∈ eventRows) {w : EventWord}
    (hrw : w &&& r.mask = r.value) (hqw : w &&& q.mask = q.value) : r = q :=
  List.inj_on_of_nodup_map eventRows_ops_nodup hr hq
    ((op_of_matches hr hrw).symm.trans (op_of_matches hq hqw))

/-! ### What the decoder answers -/

/-- A word that matches a row spells its event: no other row takes the word first. -/
theorem decodeEvent_of_matches {r : EventRow} (hr : r ∈ eventRows) {w : EventWord}
    (h : w &&& r.mask = r.value) : decodeEvent w = .ok (r.event w) := by
  rw [decodeEvent_eq_decodeByRows]
  rcases decodeByRows_cases w eventRows with ⟨q, hq, hmatch, hok⟩ | ⟨hnone, -⟩
  · rwa [eventRow_unique hr hq h hmatch]
  · exact absurd h (hnone r hr)

/-- A word that spells an event matches a row, whose event it is. -/
theorem matches_of_decodeEvent {w : EventWord} {i : Instr} (h : decodeEvent w = .ok i) :
    ∃ r ∈ eventRows, w &&& r.mask = r.value ∧ i = r.event w := by
  rw [decodeEvent_eq_decodeByRows] at h
  rcases decodeByRows_cases w eventRows with ⟨r, hr, hmatch, hok⟩ | ⟨-, e, herror⟩
  · rw [hok, Except.ok.injEq] at h
    exact ⟨r, hr, hmatch, h.symm⟩
  · rw [herror] at h
    cases h

theorem decodeEvent_error_of_no_match {w : EventWord}
    (h : ∀ r ∈ eventRows, w &&& r.mask ≠ r.value) : ∃ e, decodeEvent w = .error e := by
  rw [decodeEvent_eq_decodeByRows]
  rcases decodeByRows_cases w eventRows with ⟨r, hr, hmatch, -⟩ | ⟨-, herror⟩
  · exact absurd hmatch (h r hr)
  · exact herror

/-! ### A row's word spelled out -/

/-- A word is what a mask keeps of it and what it leaves out. -/
theorem and_or_and_not (w mask : EventWord) : w &&& mask ||| w &&& ~~~mask = w := by
  rw [← BitVec.and_or_distrib_left, BitVec.or_not_self, BitVec.and_allOnes]

/-- The low `n` bits of a word, taken out and put back. -/
theorem setWidth_extractLsb' (w : EventWord) {n : Nat} (hn : n ≤ 16) :
    (w.extractLsb' 0 n).setWidth 16 = w &&& BitVec.ofNat 16 (2 ^ n - 1) := by
  have hpow : 2 ^ n - 1 < 2 ^ 16 := by
    have := Nat.pow_le_pow_right Nat.two_pos hn
    omega
  have hlow : w.toNat % 2 ^ n ≤ w.toNat := Nat.mod_le _ _
  apply BitVec.eq_of_toNat_eq
  rw [BitVec.toNat_setWidth, BitVec.extractLsb'_toNat, BitVec.toNat_and, BitVec.toNat_ofNat,
    Nat.mod_eq_of_lt hpow, Nat.and_two_pow_sub_one_eq_mod, Nat.shiftRight_zero,
    Nat.mod_eq_of_lt (hlow.trans_lt w.isLt)]

/-- The code of `BEGIN`, its format bit in place. -/
theorem encode_beginFmt (w : EventWord) :
    encode (.beginFmt (fmtField w)) = .event (0x1000 ||| w &&& 0x0001) := by
  have hbit : w &&& 0x0001 = (BitVec.ofBool (w.getLsbD 0)).setWidth 16 :=
    BitVec.and_one_eq_setWidth_ofBool_getLsbD
  rw [hbit, fmtField]
  cases w.getLsbD 0 <;> rfl

/-- The code of a row's event is the row's value with the operand's bits back in place. -/
theorem encode_event {r : EventRow} (hr : r ∈ eventRows) (w : EventWord) :
    encode (r.event w) = .event (r.value ||| w &&& ~~~r.mask) := by
  simp only [eventRows, List.mem_cons, List.not_mem_nil, or_false] at hr
  have hnone : w &&& ~~~(0xFFFF : EventWord) = 0 := BitVec.and_zero
  rcases hr with rfl | rfl | rfl | rfl | rfl | rfl | rfl | rfl
  case inl => exact encode_beginFmt w
  case inr.inr.inl => exact congrArg (fun n => Code.event (0x3000 ||| n)) (setWidth_extractLsb' w (by decide))
  case inr.inr.inr.inr.inr.inl =>
    exact congrArg (fun n => Code.event (0x6000 ||| n)) (setWidth_extractLsb' w (by decide))
  all_goals
    simp only [hnone]
    rfl

end Sys2Proof

namespace Sys2Proof.Machine

/-! ### The obligations about event words and codes -/

/-- Settles O1, instruction class by instruction class: the operands of the three events that have one, the
other events, and the symbols. -/
theorem decodeInvertsEncode : Obligations.DecodeInvertsEncode := by
  intro i hi
  rcases instr_cases i with
    ⟨fmt, rfl⟩ | rfl | ⟨n, rfl⟩ | rfl | rfl | ⟨b, rfl⟩ | rfl | rfl | hsymbol
  · exact Laws.CodeRoundTrip.beginFmt fmt hi
  · exact Laws.CodeRoundTrip.stop hi
  · exact Laws.CodeRoundTrip.setlim n hi
  · exact Laws.CodeRoundTrip.cardOn hi
  · exact Laws.CodeRoundTrip.cardOff hi
  · exact Laws.CodeRoundTrip.bit b hi
  · exact Laws.CodeRoundTrip.step hi
  · exact Laws.CodeRoundTrip.hreset hi
  · exact decode_encode_symbol i hsymbol

/-- Settles O3: each row of the table stands in `eventRows`. -/
theorem eventRowsDecodeAsTheTableSays : Obligations.EventRowsDecodeAsTheTableSays := by
  intro w
  have row : ∀ r ∈ eventRows, w &&& r.mask = r.value → decodeEvent w = .ok (r.event w) :=
    fun r hr h => decodeEvent_of_matches hr h
  simp only [eventRows, List.forall_mem_cons] at row
  obtain ⟨h1, h2, h3, h4, h5, h6, h7, hF, -⟩ := row
  exact ⟨h1, h2, h3, h4, h5, h6, h7, hF⟩

/-- Settles O4: the decoder's search finds no row, and the step refuses the word. -/
theorem illegalEventWordsAreRefused : Obligations.IllegalEventWordsAreRefused := by
  intro w h1 h2 h3 h4 h5 h6 h7 hF
  have hnone : ∀ r ∈ eventRows, w &&& r.mask ≠ r.value := by
    simp only [eventRows, List.forall_mem_cons]
    exact ⟨h1, h2, h3, h4, h5, h6, h7, hF, nofun⟩
  obtain ⟨e, herror⟩ := decodeEvent_error_of_no_match hnone
  exact ⟨⟨e, herror⟩, fun s rest hd hin => step_of_invalid_word hd hin herror⟩

end Sys2Proof.Machine
end

section
/-! SUPPORT. The symbol tables (R94 to R99): the listings of the legal and the illegal symbols are the patterns of
odd and of even parity, each with one row, and the two character maps are arithmetic on the data value. -/

open Sys2Proof.Claims

namespace Sys2Proof.Machine

/-! ### The patterns and their rows -/

/-- The patterns of `w` bits, in accumulator order. -/
def patterns (w : Nat) : List (BitVec w) :=
  (List.finRange (2 ^ w)).map BitVec.ofFin

theorem mem_patterns {w : Nat} (v : BitVec w) : v ∈ patterns w :=
  List.mem_map.2 ⟨v.toFin, List.mem_finRange _, rfl⟩

theorem encode_decodeSym5 (v : Symbol5) : encode (decodeSym5 v) = .sym5 v := by
  obtain ⟨n, hn⟩ := v
  interval_cases n <;> rfl

theorem encode_decodeSym7 (v : Symbol7) : encode (decodeSym7 v) = .sym7 v := by
  obtain ⟨n, hn⟩ := v
  interval_cases n <;> rfl

theorem decodeSym5_injective : Function.Injective decodeSym5 := fun u v h => by
  have hcode := congrArg encode h
  rwa [encode_decodeSym5, encode_decodeSym5, Code.sym5.injEq] at hcode

theorem decodeSym7_injective : Function.Injective decodeSym7 := fun u v h => by
  have hcode := congrArg encode h
  rwa [encode_decodeSym7, encode_decodeSym7, Code.sym7.injEq] at hcode

/-- Every row of a full table is the row of a pattern. -/
theorem exists_pattern_of_mem {w : Nat} {α : Type} {rows : List α} (hlength : rows.length = 2 ^ w) {x : α}
    (h : x ∈ rows) (d : α) : ∃ v : BitVec w, rows.getD v.toNat d = x := by
  obtain ⟨n, hn, rfl⟩ := List.getElem_of_mem h
  refine ⟨BitVec.ofNat w n, ?_⟩
  rw [BitVec.toNat_ofNat, Nat.mod_eq_of_lt (hlength ▸ hn), List.getD_eq_getElem _ _ hn]

/-! ### The listings -/

/-- An odd number of 1 bits, the parity bit included: a legal symbol (R94, R99). -/
def oddPattern {w : Nat} (v : BitVec w) : Bool :=
  parityOk (v.setWidth 8)

/-- Neither null nor legal (R98, R99). -/
def illegalPattern {w : Nat} (v : BitVec w) : Bool :=
  v != 0 && !oddPattern v

theorem illegalPattern_iff {w : Nat} {v : BitVec w} :
    illegalPattern v = true ↔ v ≠ 0 ∧ parityOk (v.setWidth 8) = false := by
  simp [illegalPattern, oddPattern]

theorem num5Illegal_eq : num5Illegal = ((patterns 5).filter illegalPattern).map decodeSym5 := by
  decide

theorem alpha7Illegal_eq : alpha7Illegal = ((patterns 7).filter illegalPattern).map decodeSym7 := by
  decide

theorem num5Characters_eq : num5Characters =
    ((patterns 5).filter oddPattern).map fun v => (decodeSym5 v, 0x30 + dataValue 5 (v.setWidth 8)) := by
  decide

theorem alpha7Characters_eq : alpha7Characters =
    ((patterns 7).filter oddPattern).map fun v => (decodeSym7 v, dataValue 7 (v.setWidth 8) + 0x20) := by
  decide

/-- What a listing of the patterns with a property holds. -/
theorem mem_listing {w : Nat} {α : Type} {p : BitVec w → Bool} {f : BitVec w → α} {x : α} :
    x ∈ ((patterns w).filter p).map f ↔ ∃ v, p v = true ∧ f v = x := by
  simp [mem_patterns]

/-- A row stands in a listing when its own pattern has the property: no two patterns share a row. -/
theorem row_mem_listing {w : Nat} {α : Type} {p : BitVec w → Bool} {f : BitVec w → α}
    (hf : Function.Injective f) {v : BitVec w} :
    f v ∈ ((patterns w).filter p).map f ↔ p v = true := by
  rw [List.mem_map_of_injective hf, List.mem_filter, and_iff_right (mem_patterns v)]

/-! ### The character maps -/

/-- The numeric table is `0x30` plus the data value on odd parity, and has no other entry (R96). -/
theorem num5Map_setWidth (v : Symbol5) : num5Map (v.setWidth 8) =
    if parityOk (v.setWidth 8) then some (0x30 + dataValue 5 (v.setWidth 8)) else none := by
  revert v
  decide

theorem alpha7Map_eq (sym : BitVec 8) : alpha7Map sym = some (dataValue 7 sym + 0x20) := rfl

theorem rev_lt {n : Nat} (hn : n ≤ 8) (v : BitVec 8) : (rev n v).toNat < 2 ^ n := by
  refine Nat.lt_pow_two_of_testBit _ fun c hc => ?_
  have hbit := getLsbD_rev hn v c
  rwa [decide_eq_false (Nat.not_lt.2 hc), Bool.false_and] at hbit

/-! ### The obligations about codes and maps -/

/-- Settles O2: an event word is its row's value with the operand in place, and no two patterns of a format
share a row. -/
theorem encodeInvertsDecode : Obligations.EncodeInvertsDecode := by
  intro c i h
  cases c with
  | event w =>
    obtain ⟨r, hr, hmatch, rfl⟩ := matches_of_decodeEvent h
    rw [encode_event hr, ← hmatch, and_or_and_not]
  | sym5 v =>
    cases h
    exact encode_decodeSym5 v
  | sym7 v =>
    cases h
    exact encode_decodeSym7 v

/-- Settles O5: the words that match a row of the event table, and the rows of the symbol tables. -/
theorem spelledCodesDecode : Obligations.SpelledCodesDecode :=
  ⟨rfl, rfl, rfl, rfl, rfl, rfl, rfl, rfl⟩

/-- Settles O6: each listing is the patterns of its class, in either format. -/
theorem symbolsFallIntoThreeClasses : Obligations.SymbolsFallIntoThreeClasses := by
  refine ⟨fun v => ⟨decodeSym5_injective.eq_iff (b := 0), ?_, ?_⟩,
    fun v => ⟨decodeSym7_injective.eq_iff (b := 0), ?_, ?_⟩, rfl, rfl, rfl, rfl⟩
  · rw [num5Illegal_eq, row_mem_listing decodeSym5_injective, illegalPattern_iff]
  · rw [num5Characters_eq, List.map_map]
    exact row_mem_listing decodeSym5_injective
  · rw [alpha7Illegal_eq, row_mem_listing decodeSym7_injective, illegalPattern_iff]
  · rw [alpha7Characters_eq, List.map_map]
    exact row_mem_listing decodeSym7_injective

/-- Settles O7: the table is the formula, and the listing is the formula on the odd patterns. -/
theorem numericMapIsDataPlus30 : Obligations.NumericMapIsDataPlus30 := by
  refine ⟨num5Map_setWidth, fun v hodd => ⟨_, (num5Map_setWidth v).trans (if_pos hodd), ?_⟩⟩
  rw [num5Characters_eq]
  exact mem_listing.2 ⟨v, hodd, rfl⟩

/-- Settles O8: a data value has six bits, and the listing is the formula on the odd patterns. -/
theorem alphanumericMapIsDataPlus20 : Obligations.AlphanumericMapIsDataPlus20 := by
  intro v
  have hdata : (rev 6 (v.setWidth 8 >>> 1)).toNat < 2 ^ 6 := rev_lt (by decide) _
  refine ⟨_, alpha7Map_eq _, rfl, ?_, ?_, fun hodd => ?_⟩
  · show (0x20 : Char8) ≤ rev 6 (v.setWidth 8 >>> 1) + 0x20
    bv_omega
  · show rev 6 (v.setWidth 8 >>> 1) + 0x20 ≤ 0x5F
    bv_omega
  · rw [alpha7Characters_eq]
    exact mem_listing.2 ⟨v, hodd, rfl⟩

end Sys2Proof.Machine
end

section
/-! SUPPORT. What `REVERSE` writes (R182), and with it what taking an error and accepting a record answer, as the
statements spell them (R186, R187). -/

namespace Sys2Proof.Machine

/-! ### `REVERSE` -/

/-- The first `n` and the last `n` cells of the valid bits have changed places; the others are as before. -/
def EndsSwapped (s : State) (n : Nat) (m : Cells 1) : Prop :=
  ∀ i, Memory.read? m i =
    if i < n ∨ s.len.toNat - n ≤ i ∧ i < s.len.toNat then Memory.read? s.bits (s.len.toNat - 1 - i)
    else Memory.read? s.bits i

theorem EndsSwapped.zero (s : State) : EndsSwapped s 0 s.bits := fun i => by
  rw [if_neg (by omega)]

/-- One swap more: the two cells it reads are still as they were. -/
theorem EndsSwapped.after_swap {s : State} {n : Nat} {m : Cells 1} (h : EndsSwapped s n m)
    (hn : 2 * n + 1 < s.len.toNat) {a b : Bit} (ha : Memory.read? m n = some a)
    (hb : Memory.read? m (s.len.toNat - 1 - n) = some b) :
    EndsSwapped s (n + 1) (Memory.write (Memory.write m n b) (s.len.toNat - 1 - n) a) := by
  rw [h, if_neg (by omega)] at ha hb
  intro i
  rw [Memory.read?_write, Memory.read?_write, h]
  by_cases hlast : i = s.len.toNat - 1 - n
  · have hmirror : s.len.toNat - 1 - i = n := by omega
    rw [if_pos hlast, if_pos (by omega), hmirror, ha]
  · rw [if_neg hlast]
    by_cases hfirst : i = n
    · rw [if_pos hfirst, if_pos (by omega), hfirst, hb]
    · rw [if_neg hfirst]
      exact if_congr (by omega) rfl rfl

theorem reversePairs_endsSwapped {n : Nat} {s t : State} (hn : n ≤ s.len.toNat / 2)
    (h : reversePairs n s = .ok t) : EndsSwapped s n t.bits := by
  induction n generalizing t with
  | zero =>
    cases h
    exact .zero s
  | succ n ih =>
    obtain ⟨u, hu, hswap⟩ := except_bind_ok h
    obtain ⟨a, b, ha, hb, -, -, rfl⟩ := swapPair_eq_ok hswap
    have hlen : u.len = s.len := by rw [reversePairs_frame hu]
    rw [hlen] at hb ⊢
    exact (ih (by omega) hu).after_swap (by omega) (bitRead_eq_ok.1 ha).2 (bitRead_eq_ok.1 hb).2

/-- `REVERSE` reverses the valid bits and writes no cell above it. -/
theorem reversedPrefix_of_reverse {s t : State} (h : reverse s = .ok t) : ReversedPrefix s t.bits := by
  have hcells := reversePairs_endsSwapped le_rfl h
  refine ⟨fun i hi => ?_, fun i hi => ?_⟩
  · rw [hcells i]
    by_cases hmiddle : i < s.len.toNat / 2 ∨ s.len.toNat - s.len.toNat / 2 ≤ i
    · rw [if_pos (hmiddle.imp_right fun hlow => ⟨hlow, hi⟩)]
    · have hmirror : s.len.toNat - 1 - i = i := by omega
      rw [hmirror, ite_self]
  · rw [hcells i, if_neg (by omega)]

/-! ### The end of an attempt -/

/-- Taking an error over a readable buffer answers as R186 and R187 say. -/
theorem errorTaken_of_readable (e : ErrCode) {s : State} (hread : Readable s) :
    ErrorTaken e s (ofExcept (takeError e s)) := by
  refine ⟨fun hphase => ?_, fun hphase => ?_⟩
  · obtain ⟨t, ht⟩ := reverse_answers (s := recordFwdError e s) ⟨hread.lenCap, hread.cells⟩
    have hreversed := reversedPrefix_of_reverse ht
    refine ⟨t.bits, hreversed, ?_⟩
    unfold takeError
    rw [hphase]
    simp only [ht, except_ok_bind, ofExcept_ok]
    rw [reverse_frame ht]
    rfl
  · unfold takeError
    rw [hphase]
    rfl

theorem recordAccepted_acceptRecord (c : BitVec 8) (s : State) :
    RecordAccepted c s (.next (acceptRecord c s)) := by
  refine ⟨fun hphase => ?_, fun hphase => ?_⟩ <;>
  · unfold acceptRecord
    rw [hphase]
    rfl

end Sys2Proof.Machine
end

section
/-! SUPPORT. The symbols as instructions (log 5): each class of symbol in a demodulating state of its format, and any
symbol elsewhere. -/

open Sys2Proof.Claims

namespace Sys2Proof.Machine

/-! ### One turn, class by class -/

/-- How an attempt goes on after a symbol: with the next one, to its end, or to its error. -/
def afterTurn (F : Descriptor) (v : State) : Turn → Result
  | .go => .next v
  | .stop => ofExcept (concludeRun F v)
  | .raised e _ => ofExcept (takeError e v)

/-- A turn of the demodulator on a symbol of its own format. -/
theorem symbolTurn_of_demodulating {s : State} (hd : demodulating s = true) {fmt : Format}
    (hfmt : s.fmt = fmt) {sym : BitVec 8} {v : State} {turn : Turn}
    (hv : demodSymbol (descriptorOf fmt) sym s = (v, turn)) :
    symbolTurn fmt sym s = afterTurn (descriptorOf fmt) v turn := by
  unfold symbolTurn
  simp only [if_pos (And.intro hd hfmt), hv]
  cases turn <;> rfl

theorem demodSymbol_null (F : Descriptor) (s : State) : demodSymbol F 0 s = (s, .stop) :=
  if_pos rfl

theorem demodSymbol_even (F : Descriptor) {sym : BitVec 8} (hsym : sym ≠ 0)
    (heven : parityOk sym = false) (s : State) :
    demodSymbol F sym s = (s, .raised .symbolParityError s.cnt.toNat) := by
  unfold demodSymbol
  rw [if_neg hsym, heven]
  rfl

/-- The null symbol has even parity (R98). -/
theorem ne_zero_of_parityOk {sym : BitVec 8} (h : parityOk sym = true) : sym ≠ 0 := by
  rintro rfl
  exact absurd h (by decide)

theorem demodSymbol_odd (F : Descriptor) {sym : BitVec 8} (hodd : parityOk sym = true) {ch : Char8}
    (hmap : F.map sym = some ch) {s : State} (hroom : s.cnt < s.sizeLimit) :
    demodSymbol F sym s = (countChar (outWriteAtCnt s ch), .go) := by
  unfold demodSymbol
  rw [if_neg (ne_zero_of_parityOk hodd), if_pos hodd, hmap]
  exact if_pos hroom

theorem symbolTurn_elsewhere {fmt : Format} {s : State} (h : demodulating s = false ∨ s.fmt ≠ fmt)
    (sym : BitVec 8) : symbolTurn fmt sym s = .next s := by
  refine if_neg fun ⟨hd, hfmt⟩ => ?_
  rcases h with hno | hno
  · rw [hd] at hno
    cases hno
  · exact hno hfmt

theorem oneCharStored_outWriteAtCnt (s : State) (ch : Char8) :
    OneCharStored s s.cnt.toNat ch (outWriteAtCnt s ch).out :=
  ⟨Memory.read?_write_same _ _ _, fun _ hk => Memory.read?_write_other _ _ hk⟩

/-- A legal symbol with room below the limit (R153 to R157). -/
theorem symbolTurn_writes {s : State} (hd : demodulating s = true) {fmt : Format} (hfmt : s.fmt = fmt)
    {sym : BitVec 8} (hodd : parityOk sym = true) {ch : Char8}
    (hmap : (descriptorOf fmt).map sym = some ch) (hroom : s.cnt < s.sizeLimit) :
    ∃ m, OneCharStored s s.cnt.toNat ch m ∧
      symbolTurn fmt sym s = .next { s with out := m, cnt := s.cnt + 1 } :=
  ⟨_, oneCharStored_outWriteAtCnt s ch,
    symbolTurn_of_demodulating hd hfmt (demodSymbol_odd _ hodd hmap hroom)⟩

/-- An illegal symbol (R99, R153). -/
theorem symbolTurn_errorTaken {s : State} (hd : demodulating s = true) (hread : Readable s)
    {fmt : Format} (hfmt : s.fmt = fmt) {sym : BitVec 8} (hsym : sym ≠ 0) (heven : parityOk sym = false) :
    ErrorTaken .symbolParityError s (symbolTurn fmt sym s) := by
  rw [symbolTurn_of_demodulating hd hfmt (demodSymbol_even _ hsym heven s)]
  exact errorTaken_of_readable _ hread

/-- Widening a symbol to the accumulator loses no bit. -/
theorem setWidth_ne_zero {w : Nat} (hw : w ≤ 8) {v : BitVec w} (hv : v ≠ 0) : v.setWidth 8 ≠ 0 := by
  refine fun hzero => hv (BitVec.eq_of_toNat_eq ?_)
  have htoNat := congrArg BitVec.toNat hzero
  rwa [BitVec.toNat_setWidth_of_le hw] at htoNat

theorem sym5Rows_length : sym5Rows.length = 2 ^ 5 := rfl

theorem sym7Rows_length : sym7Rows.length = 2 ^ 7 := by
  simp [sym7Rows, sym7Rows0, sym7Rows1, sym7Rows2, sym7Rows3]

/-! ### The obligations about symbols -/

/-- Settles O38: each listed symbol is the row of an odd pattern, with the character of R96. -/
theorem legalNumericSymbolsWriteTheirCharacter : Obligations.LegalNumericSymbolsWriteTheirCharacter := by
  intro p hp s hd hfmt hroom
  rw [num5Characters_eq] at hp
  obtain ⟨v, hodd, rfl⟩ := mem_listing.1 hp
  rw [exec_decodeSym5]
  exact symbolTurn_writes hd hfmt hodd ((num5Map_setWidth v).trans (if_pos hodd)) hroom

/-- Settles O39: each listed symbol is the row of an odd pattern, with the character of R97. -/
theorem legalAlphanumericSymbolsWriteTheirCharacter :
    Obligations.LegalAlphanumericSymbolsWriteTheirCharacter := by
  intro p hp s hd hfmt hroom
  rw [alpha7Characters_eq] at hp
  obtain ⟨v, hodd, rfl⟩ := mem_listing.1 hp
  rw [exec_decodeSym7]
  exact symbolTurn_writes hd hfmt hodd (alpha7Map_eq _) hroom

/-- Settles O41: each listed symbol is the row of a pattern that is not null and has even parity. -/
theorem illegalSymbolsTakeSymbolParityError : Obligations.IllegalSymbolsTakeSymbolParityError := by
  refine fun s hd hread => ⟨fun hfmt i hi => ?_, fun hfmt i hi => ?_⟩
  · rw [num5Illegal_eq] at hi
    obtain ⟨v, hv, rfl⟩ := mem_listing.1 hi
    obtain ⟨hne, heven⟩ := illegalPattern_iff.1 hv
    rw [exec_decodeSym5]
    exact symbolTurn_errorTaken hd hread hfmt (setWidth_ne_zero (by decide) hne) heven
  · rw [alpha7Illegal_eq] at hi
    obtain ⟨v, hv, rfl⟩ := mem_listing.1 hi
    obtain ⟨hne, heven⟩ := illegalPattern_iff.1 hv
    rw [exec_decodeSym7]
    exact symbolTurn_errorTaken hd hread hfmt (setWidth_ne_zero (by decide) hne) heven

/-- Settles O42: the null symbol stops the loop, and the run is concluded from the terminated state. -/
theorem nullSymbolsEndTheRun : Obligations.NullSymbolsEndTheRun := by
  intro s hd hrun i hi
  have hturn : exec i s = ofExcept (concludeRun (descriptorOf s.fmt) s) := by
    rcases hi with ⟨hfmt, rfl⟩ | ⟨hfmt, rfl⟩ <;>
    · rw [hfmt]
      exact symbolTurn_of_demodulating hd hfmt (demodSymbol_null _ s)
  obtain ⟨r, hr⟩ := validate_answers hrun.after_terminate
  refine ⟨(terminate s).out, r, oneCharStored_outWriteAtCnt s 0, hr, ?_⟩
  rw [hturn, concludeRun, hr, except_ok_bind]
  cases r with
  | ok c => exact ⟨(validate_ok hr).1, recordAccepted_acceptRecord c (terminate s)⟩
  | err e info => exact errorTaken_of_readable e hrun.after_terminate.buffer

/-- Settles O43: every row of a table is a turn of the demodulator, which reads another format or none. -/
theorem symbolsElsewhereChangeNothing : Obligations.SymbolsElsewhereChangeNothing := by
  refine fun s => ⟨fun h i hi => ?_, fun h i hi => ?_⟩
  · obtain ⟨v, rfl⟩ := exists_pattern_of_mem sym5Rows_length hi .sym5Null
    exact (exec_decodeSym5 v s).trans (symbolTurn_elsewhere h _)
  · obtain ⟨v, rfl⟩ := exists_pattern_of_mem sym7Rows_length hi .sym7Null
    exact (exec_decodeSym7 v s).trans (symbolTurn_elsewhere h _)

end Sys2Proof.Machine
end

section
/-! SUPPORT. An attempt that meets no error: a buffer whose first start sentinel opens a run of legal symbols within
the limit (R142, R160) is demodulated to the end of that run. -/

namespace Sys2Proof.Machine

/-! ### `FIND` at the first sentinel -/

/-- A match at the bit at `IDX` puts `START` at the first bit of the window that ends there. -/
theorem Scanned.start_of_match {F : Descriptor} (hF : F.wf = true) {n : Nat} {s : State}
    (h : Scanned F (n + 1) s) {b : Bit} (hb : bitRead s s.idx.toNat = .ok b)
    (hmatch : accUpdate F s.acc b = F.pattern) :
    (foundHere F (accUpdate F s.acc b) s).start.toNat + F.width = s.idx.toNat + 1 := by
  obtain ⟨hlow, hhigh⟩ := width_bounds_of_wf hF
  obtain ⟨hinside, -⟩ := h.sentinel_of_match hF hb hmatch
  have hlt := (bitRead_eq_ok.1 hb).1
  have hlen := s.len.isLt
  rw [foundHere_start, foundHere_len, BitVec.toNat_sub, BitVec.toNat_ofNat,
    Nat.mod_eq_of_lt (show F.width - 1 < 2 ^ 16 by omega)] at hinside
  rw [foundHere_start, BitVec.toNat_sub, BitVec.toNat_ofNat,
    Nat.mod_eq_of_lt (show F.width - 1 < 2 ^ 16 by omega)]
  omega

/-- The windows before offset `p` do not spell the start sentinel, and the one at `p` does. -/
structure FirstSentinel (F : Descriptor) (p : Nat) (s : State) : Prop where
  inside  : p + F.width ≤ s.len.toNat
  here    : windowValue s.bits p F.width = F.pattern.toNat
  earlier : ∀ q, q < p → windowValue s.bits q F.width ≠ F.pattern.toNat

theorem findLoop_firstSentinel {F : Descriptor} (hF : F.wf = true) {p n : Nat} {s t : State}
    (h : Scanned F n s) (hfirst : FirstSentinel F p s) (hidx : s.idx.toNat < p + F.width)
    (hfind : findLoop F n s = .ok t) : t.startFound = true ∧ t.start.toNat = p := by
  induction n generalizing s with
  | zero =>
    have hleft := h.left
    have hinside := hfirst.inside
    omega
  | succ n ih =>
    obtain ⟨b, hb, ⟨hmatch, rfl⟩ | ⟨hno, hrest⟩⟩ := findLoop_succ hfind
    · obtain ⟨-, hwindow⟩ := h.sentinel_of_match hF hb hmatch
      have hend := h.start_of_match hF hb hmatch
      refine ⟨rfl, Nat.le_antisymm (by omega) (Nat.le_of_not_lt fun hlt => ?_)⟩
      exact hfirst.earlier _ hlt hwindow
    · have hlt := (bitRead_eq_ok.1 hb).1
      refine ih (h.after_scanOn hF hb) ⟨hfirst.inside, hfirst.here, hfirst.earlier⟩ ?_ hrest
      rw [scanOn_idx, toNat_add_one_of_lt hlt]
      refine Nat.lt_of_le_of_ne hidx fun hend => hno (BitVec.eq_of_toNat_eq ?_)
      have hwindow := windowValue_add_mod s.bits 0 p F.width
      rw [h.value_next hF hb, ← hfirst.here, ← Nat.zero_add p, ← hwindow, ← hend]

/-- `FIND` answers the first start sentinel of the buffer (R140, R142). -/
theorem find_firstSentinel {F : Descriptor} (hF : F.wf = true) {p : Nat} {s t : State}
    (hfirst : FirstSentinel F p s) (hfind : find F s = .ok t) :
    t.startFound = true ∧ t.start.toNat = p := by
  obtain ⟨hlow, -⟩ := width_bounds_of_wf hF
  refine findLoop_firstSentinel hF (scanned_beginScan F s)
    ⟨hfirst.inside, hfirst.here, hfirst.earlier⟩ ?_ hfind
  rw [beginScan_idx, BitVec.ofNat_eq_ofNat, BitVec.toNat_ofNat, Nat.zero_mod]
  omega

/-! ### `DEMOD` on a legal run -/

/-- From `START` on stand `n` legal symbols, within the limit, and after them a null symbol or too few bits. -/
structure LegalRun (F : Descriptor) (n : Nat) (s : State) : Prop where
  inside : s.start.toNat + n * F.width ≤ s.len.toNat
  legal  : ∀ k, k < n → parityOk (symbolAt F s k) = true ∧ ∃ ch, F.map (symbolAt F s k) = some ch
  limit  : n ≤ s.sizeLimit.toNat
  ended  : symbolAt F s n = 0 ∨ s.len.toNat < s.start.toNat + (n + 1) * F.width

theorem LegalRun.of_shiftIn {F : Descriptor} {n : Nat} {s u : State} {c : Bool} (h : LegalRun F n s)
    (hshift : shiftIn F s = .ok (u, c)) : LegalRun F n u := by
  obtain ⟨b, -, ⟨-, -, rfl⟩ | ⟨-, -, rfl⟩⟩ := shiftIn_cases hshift <;>
    exact ⟨h.inside, h.legal, h.limit, h.ended⟩

theorem LegalRun.of_demodSymbol_go {F : Descriptor} {n : Nat} {sym : BitVec 8} {s v : State}
    (h : LegalRun F n s) (hgo : demodSymbol F sym s = (v, .go)) : LegalRun F n v := by
  obtain ⟨-, -, -, ch, -, rfl⟩ := demodSymbol_go hgo
  exact ⟨h.inside, h.legal, h.limit, h.ended⟩

theorem LegalRun.after_terminate {F : Descriptor} {n : Nat} {s : State} (h : LegalRun F n s) :
    LegalRun F n (terminate s) :=
  ⟨h.inside, h.legal, h.limit, h.ended⟩

/-- A run of `c` legal symbols inside the buffer is no longer than the legal run. -/
theorem LegalRun.le_of_legalSymbols {F : Descriptor} {n c : Nat} {s : State} (h : LegalRun F n s)
    (hlegal : LegalSymbols F s c) (hinside : s.start.toNat + c * F.width ≤ s.len.toNat) : c ≤ n := by
  refine Nat.le_of_not_lt fun hlt => ?_
  have hwidth : (n + 1) * F.width ≤ c * F.width := Nat.mul_le_mul_right _ hlt
  rcases h.ended with hnull | hshort
  · exact (hlegal n hlt).1 hnull
  · omega

/-- A run that has ended has ended where the legal run does. -/
theorem LegalRun.cnt_eq {F : Descriptor} {n : Nat} {t : State} (h : LegalRun F n t)
    (hended : EndedRun F t) : t.cnt.toNat = n := by
  refine Nat.le_antisymm (h.le_of_legalSymbols hended.legal hended.inside) (Nat.le_of_not_lt fun hlt => ?_)
  have hwidth : (t.cnt.toNat + 1) * F.width ≤ n * F.width := Nat.mul_le_mul_right _ hlt
  have hinside := h.inside
  rcases hended.ended with hnull | hshort
  · exact ne_zero_of_parityOk (h.legal _ hlt).1 hnull
  · omega

/-- No symbol of a legal run, nor what follows it, raises an error. -/
theorem LegalRun.demodSymbol_not_raised {F : Descriptor} {n : Nat} {s v : State} {e : ErrCode} {info : Nat}
    (h : LegalRun F n s) (hread : SymbolRead F s) (hlegal : LegalSymbols F s s.cnt.toNat) :
    demodSymbol F (symbolAt F s s.cnt.toNat) s ≠ (v, .raised e info) := by
  have hposition := hread.position
  have hbuffer := hread.inBuffer
  have hsplit : (s.cnt.toNat + 1) * F.width = s.cnt.toNat * F.width + F.width := Nat.succ_mul _ _
  have hle := h.le_of_legalSymbols hlegal (by omega)
  rcases Nat.lt_or_eq_of_le hle with hlt | heq
  · obtain ⟨hodd, ch, hmap⟩ := h.legal _ hlt
    rw [demodSymbol_odd F hodd hmap (BitVec.lt_def.2 (hlt.trans_le h.limit))]
    nofun
  · have hnull : symbolAt F s s.cnt.toNat = 0 := by
      rcases h.ended with hnull | hshort
      · rwa [heq]
      · rw [← heq] at hshort
        omega
    rw [hnull, demodSymbol_null]
    nofun

/-- `DEMOD` reads the whole of a legal run and answers its length. -/
theorem demod_legalRun {F : Descriptor} (hF : F.wf = true) {n : Nat} {s t : State} {r : AttemptResult}
    (h : LegalRun F n s) (hdemod : demod F s = .ok (t, r)) :
    r = .ok t.cnt ∧ t.cnt.toNat = n ∧ EndedRun F t := by
  have hinside := h.inside
  have hstart : s.start.toNat ≤ s.len.toNat := by omega
  obtain ⟨hrun, c, rfl⟩ : LegalRun F n t ∧ ∃ c, r = .ok c :=
    demodLoop_induction (P := fun k u => RunState F k u ∧ LegalRun F n u)
      (Q := fun t r => LegalRun F n t ∧ ∃ c, r = .ok c)
      (fun _ hu => ⟨hu.2.after_terminate, _, rfl⟩)
      (fun _ _ _ hu hshift => ⟨hu.1.of_shiftIn_false hF hshift, hu.2.of_shiftIn hshift⟩)
      (fun _ _ _ _ hu hshift hgo =>
        ⟨hu.1.of_demodSymbol_go hF hshift hgo, (hu.2.of_shiftIn hshift).of_demodSymbol_go hgo⟩)
      (fun _ _ _ _ hu hshift hstop => by
        obtain ⟨-, rfl⟩ := demodSymbol_stop hstop
        exact ⟨(hu.2.of_shiftIn hshift).after_terminate, _, rfl⟩)
      (fun _ _ _ _ _ _ hu hshift hraised => by
        obtain ⟨hacc, hlegal⟩ := hu.1.content.of_shiftIn_true hF hu.1.position hshift
        rw [hacc] at hraised
        exact absurd hraised ((hu.2.of_shiftIn hshift).demodSymbol_not_raised
          (hu.1.position.of_shiftIn_true hshift) hlegal))
      ⟨RunState.after_beginDemod hF hstart, h.inside, h.legal, h.limit, h.ended⟩ hdemod
  obtain ⟨rfl, hended⟩ := demod_ok hF hstart hdemod
  exact ⟨rfl, hrun.cnt_eq hended, hended⟩

/-! ### The validator and the attempt -/

theorem EndedRun.runReadable {F : Descriptor} {t : State} (h : EndedRun F t) (hread : Readable t) :
    RunReadable F t :=
  ⟨hread, h.inside, h.chars⟩

/-- The validator accepts a run with the end sentinel in the second-to-last place whose data values cancel
(R171, R172). -/
theorem validate_eq_ok {F : Descriptor} (hF : F.wf = true) {t : State} (hrun : RunReadable F t)
    (htwo : 2 ≤ t.cnt.toNat) (hend : Memory.read? t.out (t.cnt.toNat - 2) = some F.endChar)
    (hxor : dataXor F t t.cnt.toNat = 0) : validate F t = .ok (.ok t.cnt) := by
  have hendchk : endchk F t = .ok .pass := by
    unfold endchk
    rw [if_neg (by omega), outRead_eq_ok.2 ⟨by omega, hend⟩, except_ok_bind, if_pos rfl]
  have hlrc : lrc F t = .ok .pass := (lrc_pass_iff hrun).2 ((dataXor_eq_zero_iff hF t _).1 hxor)
  unfold validate
  rw [hendchk, except_ok_bind, hlrc]
  rfl

/-- `ATTEMPT` by its stages, run forwards (R181). -/
theorem attempt_of_stages {F : Descriptor} {s u t : State} {c : BitVec 8} {r : AttemptResult}
    (hfind : find F s = .ok u) (hfound : u.startFound = true) (hdemod : demod F u = .ok (t, .ok c))
    (hvalidate : validate F t = .ok r) : attempt F s = .ok (t, r) := by
  unfold attempt
  simp only [hfind, except_ok_bind, hfound, if_true, hdemod, hvalidate]

end Sys2Proof.Machine
end

section
/-! SUPPORT. The symbol of a data value and the LRC symbol of a frame (R64, R104): legal symbols whose data value is
the one asked for, so that the data values of a frame cancel. -/

namespace Sys2Proof.Machine

/-! ### The symbol of a data value -/

/-- Reversing `n` bits twice gives them back. -/
theorem rev_rev {n : Nat} (hn : n ≤ 8) {d : BitVec 8} (hd : d.toNat < 2 ^ n) : rev n (rev n d) = d := by
  refine BitVec.eq_of_getLsbD_eq fun c _ => ?_
  rw [getLsbD_rev hn, getLsbD_rev hn]
  by_cases hc : c < n
  · have hmirror : n - 1 - (n - 1 - c) = c := by omega
    simp [hc, hmirror, show n - 1 - c < n by omega]
  · have hhigh : d.getLsbD c = false :=
      Nat.testBit_lt_two_pow (hd.trans_le (Nat.pow_le_pow_right Nat.two_pos (by omega)))
    simp [hc, hhigh]

/-- The number of 1 bits, bit 0 apart. -/
theorem popcount_eq_add (v : BitVec 8) :
    popcount v = (v.getLsbD 0).toNat + ((List.range 7).map fun i => (v.getLsbD (i + 1)).toNat).sum := rfl

/-- Setting the parity bit of a symbol that has none adds one 1 bit. -/
theorem popcount_or_one {v : BitVec 8} (h : v.getLsbD 0 = false) : popcount (v ||| 1) = popcount v + 1 := by
  have hfirst : (v ||| 1).getLsbD 0 = true := by simp
  have hrest : ∀ i, (v ||| 1).getLsbD (i + 1) = v.getLsbD (i + 1) := by simp
  rw [popcount_eq_add, popcount_eq_add v, hfirst, h]
  simp only [hrest, Bool.toNat_true, Bool.toNat_false]
  omega

/-- The parity bit that makes a symbol's number of 1 bits odd (R94). -/
theorem parityOk_of_parity_bit {v : BitVec 8} (h : v.getLsbD 0 = false) :
    parityOk (if parityOk v then v else v ||| 1) = true := by
  split
  · assumption
  · rename_i heven
    simp only [parityOk, beq_iff_eq] at heven ⊢
    rw [popcount_or_one h]
    omega

/-- The parity bit is no part of the data (R64). -/
theorem parity_bit_ushiftRight (v : BitVec 8) :
    (if parityOk v then v else v ||| 1) >>> 1 = v >>> 1 := by
  split
  · rfl
  · exact BitVec.eq_of_getLsbD_eq fun c _ => by simp

theorem shiftLeft_ushiftRight_one {v : BitVec 8} (h : v.toNat < 2 ^ 7) : (v <<< 1) >>> 1 = v := by
  apply BitVec.eq_of_toNat_eq
  rw [BitVec.toNat_ushiftRight, BitVec.toNat_shiftLeft, Nat.shiftLeft_eq, Nat.shiftRight_eq_div_pow]
  omega

theorem symbolOfData_eq (F : Descriptor) (d : BitVec 8) : symbolOfData F d =
    if parityOk (rev (F.width - 1) d <<< 1) then rev (F.width - 1) d <<< 1
    else rev (F.width - 1) d <<< 1 ||| 1 := rfl

theorem parityOk_symbolOfData (F : Descriptor) (d : BitVec 8) : parityOk (symbolOfData F d) = true := by
  rw [symbolOfData_eq]
  exact parityOk_of_parity_bit (by simp)

/-- Above its parity bit the symbol holds the data bits, the first of them the highest (R64). -/
theorem symbolOfData_ushiftRight {F : Descriptor} (hF : F.wf = true) (d : BitVec 8) :
    symbolOfData F d >>> 1 = rev (F.width - 1) d := by
  obtain ⟨hlow, hhigh⟩ := width_bounds_of_wf hF
  have hbound : (rev (F.width - 1) d).toNat < 2 ^ (F.width - 1) := rev_lt (by omega) d
  have hpow : 2 ^ (F.width - 1) ≤ 2 ^ 7 := Nat.pow_le_pow_right Nat.two_pos (by omega)
  rw [symbolOfData_eq, parity_bit_ushiftRight, shiftLeft_ushiftRight_one (hbound.trans_le hpow)]

theorem symbolOfData_lt {F : Descriptor} (hF : F.wf = true) (d : BitVec 8) :
    (symbolOfData F d).toNat < 2 ^ F.width := by
  obtain ⟨hlow, hhigh⟩ := width_bounds_of_wf hF
  have hbound : (rev (F.width - 1) d).toNat < 2 ^ (F.width - 1) := rev_lt (by omega) d
  have hhalf := congrArg BitVec.toNat (symbolOfData_ushiftRight hF d)
  have hpow : 2 ^ F.width = 2 * 2 ^ (F.width - 1) := by
    rw [← pow_succ', Nat.sub_add_cancel (by omega)]
  rw [BitVec.toNat_ushiftRight, Nat.shiftRight_eq_div_pow, pow_one] at hhalf
  omega

/-- The data value of the symbol of a data value is that value (R64, R95). -/
theorem dataValue_symbolOfData {F : Descriptor} (hF : F.wf = true) {d : BitVec 8}
    (hd : d.toNat < 2 ^ (F.width - 1)) : dataValue F.width (symbolOfData F d) = d := by
  obtain ⟨-, hhigh⟩ := width_bounds_of_wf hF
  rw [dataValue, symbolOfData_ushiftRight hF, rev_rev (by omega) hd]

/-! ### The LRC symbol -/

/-- The exclusive-or of the data values of a list of symbols (R104). -/
def dataXorOf (F : Descriptor) (vs : List (BitVec 8)) : BitVec 8 :=
  vs.foldl (fun d v => d ^^^ dataValue F.width v) 0

theorem dataXorOf_concat (F : Descriptor) (vs : List (BitVec 8)) (v : BitVec 8) :
    dataXorOf F (vs ++ [v]) = dataXorOf F vs ^^^ dataValue F.width v := by
  simp [dataXorOf]

theorem lrcSymbol_eq (F : Descriptor) (vs : List (BitVec 8)) :
    lrcSymbol F vs = symbolOfData F (dataXorOf F vs) := rfl

/-- The exclusive-or over the run is that of the symbols the run holds. -/
theorem dataXor_eq_dataXorOf (F : Descriptor) (s : State) (n : Nat) :
    dataXor F s n = dataXorOf F ((List.range n).map (symbolAt F s)) := by
  rw [dataXor, dataXorOf, List.foldl_map]

theorem dataXorOf_lt {F : Descriptor} (hF : F.wf = true) (vs : List (BitVec 8)) :
    (dataXorOf F vs).toNat < 2 ^ (F.width - 1) := by
  obtain ⟨-, hhigh⟩ := width_bounds_of_wf hF
  induction vs using List.reverseRecOn with
  | nil => exact Nat.two_pow_pos _
  | append_singleton vs v ih =>
    rw [dataXorOf_concat, BitVec.toNat_xor]
    exact Nat.xor_lt_two_pow ih (rev_lt (by omega) _)

/-- The LRC symbol cancels the data values of the symbols before it (R104, R172 corner case (b)). -/
theorem dataXorOf_frame {F : Descriptor} (hF : F.wf = true) (vs : List (BitVec 8)) :
    dataXorOf F (vs ++ [lrcSymbol F vs]) = 0 := by
  rw [dataXorOf_concat, lrcSymbol_eq, dataValue_symbolOfData hF (dataXorOf_lt hF vs), BitVec.xor_self]
  rfl

end Sys2Proof.Machine
end

section
/-! SUPPORT. A captured string of bits in the buffer (R191), and a synthetic frame in it (R104): where its symbols
stand and what they spell. -/

open Sys2Proof.Claims

namespace Sys2Proof.Machine

/-! ### A captured string -/

theorem read?_indexBits (bs : List Bit) (j i : Nat) :
    Memory.read? (indexBits bs j) (j + i) = bs[i]? := by
  induction bs generalizing j i with
  | nil => rfl
  | cons b bs ih =>
    rw [indexBits, Memory.read?_cons]
    cases i with
    | zero => simp
    | succ i =>
      rw [if_neg (by omega), ← Nat.add_assoc, Nat.add_right_comm, ih, List.getElem?_cons_succ]

theorem read?_indexBits_zero (bs : List Bit) (i : Nat) : Memory.read? (indexBits bs 0) i = bs[i]? := by
  simpa using read?_indexBits bs 0 i

/-- The buffer of `s` holds the bits `bs`. -/
structure BufferHolds (bs : List Bit) (s : State) : Prop where
  bits : s.bits = indexBits bs 0
  len  : s.len.toNat = bs.length

theorem BufferHolds.read? {bs : List Bit} {s : State} (h : BufferHolds bs s) (i : Nat) :
    Memory.read? s.bits i = bs[i]? := by
  rw [h.bits, read?_indexBits_zero]

theorem BufferHolds.bitAt {bs : List Bit} {s : State} (h : BufferHolds bs s) (i : Nat) :
    bitAt s.bits i = (bs[i]?.getD 0).toNat := by
  rw [Machine.bitAt, h.read?]

theorem BufferHolds.readable {bs : List Bit} {s : State} (h : BufferHolds bs s)
    (hcap : bs.length ≤ s.cfg.bufCap) : Readable s where
  lenCap := h.len.trans_le hcap
  cells i hi := by
    rw [h.len] at hi
    simp [h.read?, hi]

theorem filterMap_getElem?_range {α : Type} (l : List α) :
    (List.range l.length).filterMap (fun i => l[i]?) = l := by
  induction l with
  | nil => rfl
  | cons x l ih =>
    rw [List.length_cons, List.range_succ_eq_map, List.filterMap_cons_some (by rfl), List.filterMap_map]
    exact congrArg (x :: ·) ih

theorem BufferHolds.bufferBits {bs : List Bit} {s : State} (h : BufferHolds bs s) : bufferBits s = bs := by
  have hread : Memory.read? s.bits = fun i => bs[i]? := funext h.read?
  rw [Machine.bufferBits, h.len, hread, filterMap_getElem?_range]

theorem BufferHolds.of_sameButWork {bs : List Bit} {s t : State} (h : BufferHolds bs s)
    (hst : SameButWork s t) : BufferHolds bs t := by
  obtain ⟨hbits, hlen, -, -, -⟩ := hst.buffer
  exact ⟨hbits.trans h.bits, by rw [hlen, h.len]⟩

/-! ### The bits of a frame -/

/-- The symbols of a frame: those of its characters and the LRC symbol (R104). -/
def frameSymbols (F : Descriptor) (vs : List (BitVec 8)) : List (BitVec 8) :=
  vs ++ [lrcSymbol F vs]

theorem length_symbolStream (F : Descriptor) (v : BitVec 8) : (symbolStream F v).length = F.width := by
  simp [symbolStream]

theorem getElem?_symbolStream {F : Descriptor} (v : BitVec 8) {c : Nat} (hc : c < F.width) :
    (symbolStream F v)[c]? = some (BitVec.ofBool (v.getLsbD (F.width - 1 - c))) := by
  simp [symbolStream, hc]

/-- Where blocks of one width are strung together, bit `c` of block `k` stands at `k * w + c`. -/
theorem getElem?_flatMap_blocks {α β : Type} {f : α → List β} {w : Nat} (hf : ∀ x, (f x).length = w)
    {xs : List α} {k c : Nat} (hk : k < xs.length) (hc : c < w) :
    (xs.flatMap f)[k * w + c]? = (f xs[k])[c]? := by
  induction xs generalizing k with
  | nil => cases hk
  | cons x xs ih =>
    rw [List.flatMap_cons]
    cases k with
    | zero => rw [Nat.zero_mul, Nat.zero_add, List.getElem?_append_left (by rwa [hf]), List.getElem_cons_zero]
    | succ k =>
      have hindex : (k + 1) * w + c - w = k * w + c := by
        rw [Nat.succ_mul]
        omega
      have hbeyond : w ≤ (k + 1) * w + c := by
        rw [Nat.succ_mul]
        omega
      rw [List.getElem?_append_right (by rwa [hf]), hf, hindex, ih (Nat.lt_of_succ_lt_succ hk),
        List.getElem_cons_succ]

theorem length_flatMap_blocks {α β : Type} {f : α → List β} {w : Nat} (hf : ∀ x, (f x).length = w)
    (xs : List α) : (xs.flatMap f).length = xs.length * w := by
  simp [List.length_flatMap, hf]

theorem length_frameStream (F : Descriptor) (a : Nat) (vs : List (BitVec 8)) (b : Nat) :
    (frameStream F a vs b).length = a + (frameSymbols F vs).length * F.width + b := by
  rw [frameStream, List.length_append, List.length_append, List.length_replicate, List.length_replicate,
    length_flatMap_blocks (length_symbolStream F), frameSymbols]

theorem frameStream_before {F : Descriptor} {a : Nat} (vs : List (BitVec 8)) (b : Nat) {i : Nat}
    (hi : i < a) : (frameStream F a vs b)[i]? = some 0 := by
  rw [frameStream, List.append_assoc, List.getElem?_append_left (by simpa using hi)]
  simp [hi]

theorem frameStream_symbol {F : Descriptor} (a : Nat) {vs : List (BitVec 8)} (b : Nat) {k c : Nat}
    (hk : k < (frameSymbols F vs).length) (hc : c < F.width) :
    (frameStream F a vs b)[a + (k * F.width + c)]? =
      some (BitVec.ofBool ((frameSymbols F vs)[k].getLsbD (F.width - 1 - c))) := by
  have hblock := getElem?_flatMap_blocks (length_symbolStream F) hk hc
  rw [getElem?_symbolStream _ hc] at hblock
  have hinside : k * F.width + c < ((frameSymbols F vs).flatMap (symbolStream F)).length :=
    (List.getElem?_eq_some_iff.1 hblock).1
  rw [frameStream, List.append_assoc, List.getElem?_append_right (by simp), List.length_replicate,
    Nat.add_sub_cancel_left, ← frameSymbols, List.getElem?_append_left hinside, hblock]

/-- Beyond its symbols the stream holds zeros or nothing. -/
theorem frameStream_after {F : Descriptor} {a : Nat} {vs : List (BitVec 8)} (b : Nat) {i : Nat}
    (hi : a + (frameSymbols F vs).length * F.width ≤ i) : (frameStream F a vs b)[i]?.getD 0 = 0 := by
  have hlength := length_flatMap_blocks (length_symbolStream F) (frameSymbols F vs)
  rw [frameStream, ← frameSymbols, List.getElem?_append_right (by simp [hlength]; omega),
    List.getElem?_replicate]
  split <;> rfl

end Sys2Proof.Machine
end

section
/-! SUPPORT. The obligation about synthetic frames (R104, R191): a frame between zeros is found, demodulated and
accepted as captured. -/

open Sys2Proof.Claims

namespace Sys2Proof.Machine

/-! ### A window by its bits -/

theorem windowValue_eq_of_bits {m : Cells 1} {p w v : Nat} (hv : v < 2 ^ w)
    (hbits : ∀ c, c < w → bitAt m (p + c) = (v.testBit (w - 1 - c)).toNat) : windowValue m p w = v := by
  refine Nat.eq_of_testBit_eq fun i => ?_
  by_cases hi : i < w
  · have hmirror : w - 1 - (w - 1 - i) = i := by omega
    have hbit := testBit_windowValue m p (w := w) (k := w - 1 - i) (by omega)
    rw [hmirror, hbits _ (by omega), hmirror] at hbit
    rw [hbit]
    cases v.testBit i <;> rfl
  · have hpow : 2 ^ w ≤ 2 ^ i := Nat.pow_le_pow_right Nat.two_pos (by omega)
    rw [Nat.testBit_lt_two_pow ((windowValue_lt m p w).trans_le hpow),
      Nat.testBit_lt_two_pow (hv.trans_le hpow)]

/-- A window that begins with a 0 spells no start sentinel: the sentinel's first bit is 1 (R11). -/
theorem windowValue_ne_pattern {F : Descriptor} (hF : F.wf = true) {m : Cells 1} {q : Nat}
    (hzero : bitAt m q = 0) : windowValue m q F.width ≠ F.pattern.toNat := by
  obtain ⟨hlow, -, -, htop, -, -⟩ := (Descriptor.wf_iff F).1 hF
  have hpattern : 2 ^ (F.width - 1) ≤ F.pattern.toNat := Nat.ge_two_pow_of_testBit htop
  have hsplit := windowValue_add m q 1 (F.width - 1)
  have hrest := windowValue_lt m (q + 1) (F.width - 1)
  rw [Nat.add_sub_cancel' (by omega), windowValue_succ, windowValue_zero, Nat.add_zero, hzero, Nat.mul_zero,
    Nat.zero_add, Nat.zero_mul, Nat.zero_add] at hsplit
  omega

/-! ### A frame in the buffer -/

/-- The symbols of a frame: legal, a start sentinel first and an end sentinel last (R104). -/
structure FrameOf (F : Descriptor) (vs : List (BitVec 8)) : Prop where
  symbols : ∀ v ∈ vs, v.toNat < 2 ^ F.width ∧ parityOk v = true
  first   : vs.head? = some F.pattern
  last    : vs.getLast?.bind F.map = some F.endChar

theorem FrameOf.length_pos {F : Descriptor} {vs : List (BitVec 8)} (h : FrameOf F vs) : 0 < vs.length := by
  have hfirst := h.first
  cases vs with
  | nil => cases hfirst
  | cons v vs => exact Nat.succ_pos _

theorem length_frameSymbols (F : Descriptor) (vs : List (BitVec 8)) :
    (frameSymbols F vs).length = vs.length + 1 := by
  simp [frameSymbols]

/-- The LRC symbol is legal as well. -/
theorem FrameOf.legal {F : Descriptor} (hF : F.wf = true) {vs : List (BitVec 8)} (h : FrameOf F vs) :
    ∀ v ∈ frameSymbols F vs, v.toNat < 2 ^ F.width ∧ parityOk v = true := by
  intro v hv
  rcases List.mem_append.1 hv with hv | hv
  · exact h.symbols v hv
  · rw [List.mem_singleton.1 hv]
    exact ⟨symbolOfData_lt hF _, parityOk_symbolOfData F _⟩

theorem frameSymbols_zero {F : Descriptor} {vs : List (BitVec 8)} (h : FrameOf F vs)
    (hk : 0 < (frameSymbols F vs).length) : (frameSymbols F vs)[0] = F.pattern := by
  have hfirst := h.first
  cases vs with
  | nil => cases hfirst
  | cons v vs => simpa [frameSymbols] using hfirst

theorem frameSymbols_last {F : Descriptor} {vs : List (BitVec 8)} (h : FrameOf F vs)
    (hk : vs.length - 1 < (frameSymbols F vs).length) :
    F.map (frameSymbols F vs)[vs.length - 1] = some F.endChar := by
  have hpos := h.length_pos
  have hlast := h.last
  rw [List.getLast?_eq_getElem?, List.getElem?_eq_getElem (by omega)] at hlast
  simp only [frameSymbols]
  rwa [List.getElem_append_left (by omega)]

section FrameInBuffer

variable {F : Descriptor} {a b : Nat} {vs : List (BitVec 8)} {s : State}

/-- The window of symbol `k` spells it. -/
theorem BufferHolds.windowValue_frame (h : BufferHolds (frameStream F a vs b) s) {k : Nat}
    (hk : k < (frameSymbols F vs).length) (hlt : (frameSymbols F vs)[k].toNat < 2 ^ F.width) :
    windowValue s.bits (a + k * F.width) F.width = (frameSymbols F vs)[k].toNat := by
  refine windowValue_eq_of_bits hlt fun c hc => ?_
  rw [h.bitAt, Nat.add_assoc, frameStream_symbol a b hk hc, Option.getD_some, BitVec.toNat_ofBool]
  rfl

theorem BufferHolds.symbolAt_frame (h : BufferHolds (frameStream F a vs b) s)
    (hstart : s.start.toNat = a) {k : Nat} (hk : k < (frameSymbols F vs).length)
    (hlt : (frameSymbols F vs)[k].toNat < 2 ^ F.width) :
    symbolAt F s k = (frameSymbols F vs)[k] := by
  rw [symbolAt, hstart, h.windowValue_frame hk hlt, BitVec.ofNat_toNat, BitVec.setWidth_eq]

/-- The first sentinel of the buffer is the frame's: before it stand only zeros. -/
theorem BufferHolds.firstSentinel_frame (hF : F.wf = true) (hvs : FrameOf F vs)
    (h : BufferHolds (frameStream F a vs b) s) : FirstSentinel F a s := by
  have hlength := length_frameStream F a vs b
  have hzero : 0 < (frameSymbols F vs).length := by
    rw [length_frameSymbols]
    omega
  have hwidth : 1 * F.width ≤ (frameSymbols F vs).length * F.width := Nat.mul_le_mul_right _ hzero
  refine ⟨?_, ?_, fun q hq => windowValue_ne_pattern hF ?_⟩
  · rw [h.len]
    omega
  · have hwindow := h.windowValue_frame hzero (hvs.legal hF _ (List.getElem_mem hzero)).1
    rwa [Nat.zero_mul, Nat.add_zero, frameSymbols_zero hvs] at hwindow
  · rw [h.bitAt, frameStream_before vs b hq]
    rfl

/-- The frame is a legal run from its sentinel on, and the zeros after it end the run. -/
theorem BufferHolds.legalRun_frame (hF : F.wf = true)
    (hmap : ∀ v : BitVec 8, v.toNat < 2 ^ F.width → parityOk v = true → ∃ ch, F.map v = some ch)
    (hvs : FrameOf F vs) (h : BufferHolds (frameStream F a vs b) s) (hstart : s.start.toNat = a)
    (hlimit : vs.length + 1 ≤ s.sizeLimit.toNat) : LegalRun F (frameSymbols F vs).length s := by
  have hlength := length_frameStream F a vs b
  refine ⟨?_, fun k hk => ?_, by rwa [length_frameSymbols], ?_⟩
  · rw [h.len, hstart]
    omega
  · obtain ⟨hlt, hodd⟩ := hvs.legal hF _ (List.getElem_mem hk)
    rw [h.symbolAt_frame hstart hk hlt]
    exact ⟨hodd, hmap _ hlt hodd⟩
  · refine .inl ?_
    have hwindow : windowValue s.bits (s.start.toNat + (frameSymbols F vs).length * F.width) F.width = 0 := by
      refine windowValue_eq_of_bits (Nat.two_pow_pos _) fun c _ => ?_
      rw [h.bitAt, hstart, frameStream_after b (by omega), Nat.zero_testBit]
      rfl
    rw [symbolAt, hwindow]
    rfl

/-- The symbols of the run, listed. -/
theorem BufferHolds.map_symbolAt_frame (hF : F.wf = true) (hvs : FrameOf F vs)
    (h : BufferHolds (frameStream F a vs b) s) (hstart : s.start.toNat = a) :
    (List.range (frameSymbols F vs).length).map (symbolAt F s) = frameSymbols F vs := by
  refine List.ext_getElem (by simp) fun k _ hk => ?_
  rw [List.getElem_map, List.getElem_range]
  exact h.symbolAt_frame hstart hk (hvs.legal hF _ (List.getElem_mem hk)).1

/-- The characters of a legal run stand in `OUT`, each the character of its symbol. -/
theorem LegalSymbols.filterMap_read? {n : Nat} (h : LegalSymbols F s n) :
    (List.range n).filterMap (Memory.read? s.out) =
      ((List.range n).map (symbolAt F s)).filterMap F.map := by
  rw [List.filterMap_map]
  refine List.filterMap_congr fun k hk => ?_
  obtain ⟨-, -, ch, hmap, hread⟩ := h k (List.mem_range.1 hk)
  rw [hread, Function.comp_apply, hmap]

/-- The end sentinel stands in the second-to-last place of the demodulated frame (R171). -/
theorem BufferHolds.read?_endChar_frame (hF : F.wf = true) (hvs : FrameOf F vs)
    (h : BufferHolds (frameStream F a vs b) s) (hstart : s.start.toNat = a) (hended : EndedRun F s)
    (hcnt : s.cnt.toNat = (frameSymbols F vs).length) :
    Memory.read? s.out (s.cnt.toNat - 2) = some F.endChar := by
  have hindex : s.cnt.toNat - 2 = vs.length - 1 := by
    rw [hcnt, length_frameSymbols]
    omega
  have hinside : vs.length - 1 < (frameSymbols F vs).length := by
    rw [length_frameSymbols]
    omega
  obtain ⟨-, -, ch, hch, hout⟩ := hended.legal (vs.length - 1) (by rwa [hcnt])
  rw [h.symbolAt_frame hstart hinside (hvs.legal hF _ (List.getElem_mem hinside)).1,
    frameSymbols_last hvs] at hch
  rw [hindex, hout, hch]

/-- An attempt on a frame between zeros answers the frame's characters (R160, R171, R172, R181). -/
theorem BufferHolds.attempt_ok_frame (hF : F.wf = true)
    (hmap : ∀ v : BitVec 8, v.toNat < 2 ^ F.width → parityOk v = true → ∃ ch, F.map v = some ch)
    (hvs : FrameOf F vs) (h : BufferHolds (frameStream F a vs b) s) (hread : Readable s)
    (hlimit : vs.length + 1 ≤ s.sizeLimit.toNat) :
    ∃ t, attempt F s = .ok (t, .ok t.cnt) ∧ t.cnt.toNat = vs.length + 1 ∧
      (List.range t.cnt.toNat).filterMap (Memory.read? t.out) = (frameSymbols F vs).filterMap F.map := by
  have hpos := hvs.length_pos
  obtain ⟨u, hfind⟩ := find_answers F hread
  obtain ⟨hfound, hstart⟩ := find_firstSentinel hF (h.firstSentinel_frame hF hvs) hfind
  have hu := h.of_sameButWork (find_frame hfind)
  have hlimit_u : vs.length + 1 ≤ u.sizeLimit.toNat := by
    obtain ⟨-, -, -, hsize, -⟩ := (find_frame hfind).buffer
    rwa [hsize]
  have hrun := hu.legalRun_frame hF hmap hvs hstart hlimit_u
  have hread_u := hread.of_sameButWork (find_frame hfind)
  have hstart_le : u.start.toNat ≤ u.len.toNat := (Nat.le_add_right _ _).trans hrun.inside
  obtain ⟨t, r, hdemod⟩ := demod_answers F hread_u hstart_le
  obtain ⟨rfl, hcnt, hended⟩ := demod_legalRun hF hrun hdemod
  have ht := hu.of_sameButWork (demod_frame hdemod)
  have hstart_t : t.start.toNat = a := by rw [demod_start hdemod, hstart]
  have hlist := ht.map_symbolAt_frame hF hvs hstart_t
  rw [← hcnt] at hlist
  have hlast := ht.read?_endChar_frame hF hvs hstart_t hended hcnt
  have hxor : dataXor F t t.cnt.toNat = 0 := by
    rw [dataXor_eq_dataXorOf, hlist]
    exact dataXorOf_frame hF vs
  have hvalidate := validate_eq_ok hF
    (hended.runReadable (hread_u.of_sameButWork (demod_frame hdemod)))
    (by rw [hcnt, length_frameSymbols]; omega) hlast hxor
  refine ⟨t, attempt_of_stages hfind hfound hdemod hvalidate, ?_, ?_⟩
  · rw [hcnt, length_frameSymbols]
  · rw [hended.legal.filterMap_read?, hlist]

end FrameInBuffer

/-! ### The two formats -/

/-- Every symbol of odd parity has a character (R96, R97). -/
theorem map_of_odd (fmt : Format) (v : BitVec 8) (hv : v.toNat < 2 ^ (descriptorOf fmt).width)
    (hodd : parityOk v = true) : ∃ ch, (descriptorOf fmt).map v = some ch := by
  cases fmt with
  | num5 =>
    have hwide : (v.setWidth 5).setWidth 8 = v :=
      BitVec.eq_of_toNat_eq (by
        rw [BitVec.toNat_setWidth_of_le (by decide), BitVec.toNat_setWidth]
        exact Nat.mod_eq_of_lt hv)
    obtain ⟨ch, hmap, -⟩ := numericMapIsDataPlus30.2 (v.setWidth 5) (by rwa [hwide])
    rw [hwide] at hmap
    exact ⟨ch, hmap⟩
  | alpha7 => exact ⟨_, alpha7Map_eq v⟩

/-! ### `RESOLVE` on a frame -/

theorem capturedState_holds {cfg : Config} {bs : List Bit} (fmt : Format) (limit : BitVec 8)
    (hcfg : cfg.wf = true) (hcap : bs.length ≤ cfg.bufCap) :
    BufferHolds bs (capturedState cfg bs fmt limit) where
  bits := rfl
  len := by
    simp only [Config.wf, Bool.and_eq_true, decide_eq_true_eq] at hcfg
    exact (BitVec.toNat_ofNat _ _).trans (Nat.mod_eq_of_lt (by omega))

/-- `RESOLVE` where the as-captured attempt succeeds: the second step accepts, the third changes nothing
(R186, R188, R191). -/
theorem resolve_of_attempt {cfg : Config} {bs : List Bit} {fmt : Format} {limit c : BitVec 8} {t : State}
    (hattempt : attempt (descriptorOf fmt) (setPhase .decodingFwd (capturedState cfg bs fmt limit)) =
      .ok (t, .ok c)) :
    resolve cfg bs fmt limit = some (resolvedOf (enterSuccessFwd c t)) := by
  have hphase : t.phase = .decodingFwd := (attempt_frame hattempt).control.1
  have haccept : acceptRecord c t = enterSuccessFwd c t := by
    unfold acceptRecord
    rw [hphase]
  have hfirst : execStep (capturedState cfg bs fmt limit) =
      .next (setPhase .decodingFwd (capturedState cfg bs fmt limit)) := rfl
  have hsecond : execStep (setPhase .decodingFwd (capturedState cfg bs fmt limit)) =
      .next (enterSuccessFwd c t) := by
    show ofExcept (runAttempt (descriptorOf fmt) _) = _
    rw [runAttempt, hattempt, except_ok_bind]
    show ofExcept (.ok (acceptRecord c t)) = _
    rw [haccept, ofExcept_ok]
  have hthird : execStep (enterSuccessFwd c t) = .next (enterSuccessFwd c t) := rfl
  simp only [resolve, engineSteps, hfirst, andThen, hsecond, hthird]

/-- Settles O56: the as-captured attempt reads the frame, and its record is accepted. -/
theorem syntheticFrameDecodesForward : Obligations.SyntheticFrameDecodesForward := by
  intro cfg fmt vs a b limit hcfg hsymbols hfirst hlast hlimit hcap
  have hF := descriptorOf_wf fmt
  have hvs : FrameOf (descriptorOf fmt) vs := ⟨hsymbols, hfirst, by rw [hlast, descriptorOf_endChar]⟩
  have hcaptured := capturedState_holds fmt limit hcfg hcap
  have hholds : BufferHolds (frameStream (descriptorOf fmt) a vs b)
      (setPhase .decodingFwd (capturedState cfg (frameStream (descriptorOf fmt) a vs b) fmt limit)) :=
    ⟨hcaptured.bits, hcaptured.len⟩
  obtain ⟨t, hattempt, hcnt, hchars⟩ :=
    hholds.attempt_ok_frame hF (map_of_odd fmt) hvs (hholds.readable hcap) hlimit
  have hframe := attempt_frame hattempt
  have hcount : t.cnt = BitVec.ofNat 8 (vs.length + 1) := by
    rw [← hcnt, BitVec.ofNat_toNat, BitVec.setWidth_eq]
  have herrRev : t.errRev = .noError := by rw [hframe]; rfl
  have hbits : bufferBits (enterSuccessFwd t.cnt t) = frameStream (descriptorOf fmt) a vs b :=
    (hholds.of_sameButWork hframe).bufferBits
  have hrecord : recordChars (enterSuccessFwd t.cnt t) =
      (vs ++ [lrcSymbol (descriptorOf fmt) vs]).filterMap (descriptorOf fmt).map := hchars
  rw [resolve_of_attempt hattempt, resolvedOf, hbits, hrecord, enterSuccessFwd_errRev, herrRev,
    enterSuccessFwd_count, hcount]
  rfl

end Sys2Proof.Machine
end

section
/-! SUPPORT. The obligations of 40_capture about one event: `BEGIN`, `STOP`, `SETLIM` and `BIT` (R120 to R123,
R125), each by the class of `STATE` it meets. -/

namespace Sys2Proof.Machine

/-! ### The classes of `STATE`, listed -/

theorem Phase.mem_quiet_list_iff (p : Phase) :
    p ∈ [.idle, .successFwd, .successRev, .failure] ↔ p.quiet = true := by
  rw [p.quiet_iff]
  simp only [List.mem_cons, List.not_mem_nil, or_false]

theorem Phase.mem_busy_list_iff (p : Phase) :
    p ∈ [.captureComplete, .decodingFwd, .decodingRev] ↔ p.busy = true := by
  rw [p.busy_iff]
  simp only [List.mem_cons, List.not_mem_nil, or_false]

/-! ### `BEGIN`, `STOP`, `SETLIM` -/

theorem exec_beginFmt (fmt : Format) (s : State) : exec (.beginFmt fmt) s =
    if s.phase.quiet = true ∧ s.armed = false then .next (arm fmt s) else .next (markHaz s) := rfl

theorem exec_stop (s : State) : exec .stop s = .next (disarm s) := rfl

theorem exec_setlim (n : BitVec 8) (s : State) : exec (.setlim n) s =
    if s.phase.quiet = true then .next (setLimit n s) else .next (markHaz s) := rfl

/-! ### `BIT`, outside the capture -/

theorem exec_bit_disarmed (b : Bit) {s : State} (hdisarmed : s.armed = false) :
    exec (.bit b) s = .next s := by
  show execBit b s = _
  exact if_pos hdisarmed

/-- While armed, the class of `STATE` decides. -/
theorem exec_bit_armed (b : Bit) {s : State} (harmed : s.armed = true) : exec (.bit b) s =
    if s.phase.quiet = true then .next s
    else if s.phase.busy = true then .next (markHaz s)
    else ofExcept (append b s) := by
  show execBit b s = _
  unfold execBit
  rw [if_neg (by simp [harmed])]
  cases s.phase <;> rfl

/-- A quiet state drops the bit. -/
theorem exec_bit_quiet (b : Bit) {s : State} (harmed : s.armed = true) (hquiet : s.phase.quiet = true) :
    exec (.bit b) s = .next s := by
  rw [exec_bit_armed b harmed, if_pos hquiet]

/-- A busy state refuses the bit. -/
theorem exec_bit_busy (b : Bit) {s : State} (harmed : s.armed = true) (hbusy : s.phase.busy = true) :
    exec (.bit b) s = .next (markHaz s) := by
  have hquiet : ¬ s.phase.quiet = true := by simp [Phase.quiet_eq_false_of_busy hbusy]
  rw [exec_bit_armed b harmed, if_neg hquiet, if_pos hbusy]

/-! ### The obligations -/

/-- Settles O18, arm by arm; the cell written while capturing is cell `LEN` (R125). -/
theorem bitIsStoredDroppedOrSetsHaz : Obligations.BitIsStoredDroppedOrSetsHaz := by
  intro b s
  refine ⟨exec_bit_disarmed b, fun harmed hphase hroom => ?_, fun harmed hphase hfull => ?_,
    fun harmed hquiet => exec_bit_quiet b harmed (s.phase.mem_quiet_list_iff.1 hquiet),
    fun harmed hbusy => exec_bit_busy b harmed (s.phase.mem_busy_list_iff.1 hbusy)⟩
  · refine ⟨Memory.write s.bits s.len.toNat b, Memory.read?_write_same _ _ _,
      fun i hi => Memory.read?_write_other _ _ hi, ?_⟩
    rw [exec_bit_capturing b harmed hphase, if_pos hroom, bitStored]
  · rw [exec_bit_capturing b harmed hphase, if_neg (Nat.not_lt.2 hfull), markOverflow]

/-- Settles O15: the listed states are the quiet ones. -/
theorem beginIsAcceptedOrSetsHaz : Obligations.BeginIsAcceptedOrSetsHaz := by
  intro fmt s
  simp only [exec_beginFmt, Phase.mem_quiet_list_iff, arm, markHaz]

/-- Settles O16: `STOP` looks at no register. -/
theorem stopDisarmsInEveryState : Obligations.StopDisarmsInEveryState := by
  intro s
  rw [exec_stop, disarm]

/-- Settles O17: the listed states are the quiet ones. -/
theorem setlimIsAcceptedOrSetsHaz : Obligations.SetlimIsAcceptedOrSetsHaz := by
  intro n s
  simp only [exec_setlim, Phase.mem_quiet_list_iff, setLimit, markHaz]

end Sys2Proof.Machine
end

section
/-! SUPPORT. The obligation of 41_sentinel_locator (R140 to R143): the registers `FIND` may write, and why the offset
it answers is the least one, from `find_firstSentinel`. -/

namespace Sys2Proof.Machine

/-! ### What `FIND` writes -/

/-- The registers `FIND` may write: `ACC`, `IDX`, and the answer in `START` (R140). -/
def SameButLocator (s t : State) : Prop :=
  t = { s with acc := t.acc, idx := t.idx, start := t.start, startFound := t.startFound }

theorem SameButLocator.trans {s t u : State} (h : SameButLocator s t) (h' : SameButLocator t u) :
    SameButLocator s u := by
  unfold SameButLocator at *
  rw [h', h]

theorem findLoop_sameButLocator {F : Descriptor} {n : Nat} {s t : State}
    (hfind : findLoop F n s = .ok t) : SameButLocator s t := by
  induction n generalizing s with
  | zero =>
    cases hfind
    rfl
  | succ n ih =>
    obtain ⟨b, -, ⟨-, rfl⟩ | ⟨-, hrest⟩⟩ := findLoop_succ hfind
    · rfl
    · exact (show SameButLocator s (scanOn _ s) from rfl).trans (ih hrest)

theorem find_sameButLocator {F : Descriptor} {s t : State} (hfind : find F s = .ok t) :
    SameButLocator s t :=
  (show SameButLocator s (beginScan s) from rfl).trans (findLoop_sameButLocator hfind)

/-! ### What `FIND` answers -/

/-- A buffer with a window that spells the start sentinel has a first one. -/
theorem exists_firstSentinel {F : Descriptor} {p : Nat} {s : State} (hinside : p + F.width ≤ s.len.toNat)
    (hwindow : windowValue s.bits p F.width = F.pattern.toNat) : ∃ q, FirstSentinel F q s := by
  have hsome : ∃ q, windowValue s.bits q F.width = F.pattern.toNat := ⟨p, hwindow⟩
  have hle : Nat.find hsome ≤ p := Nat.find_min' hsome hwindow
  exact ⟨Nat.find hsome, by omega, Nat.find_spec hsome, fun _ hq => Nat.find_min hsome hq⟩

/-- The offset `FIND` leaves in `START` is the first sentinel's (R142): an earlier one would have been answered. -/
theorem firstSentinel_of_found {F : Descriptor} (hF : F.wf = true) {s t : State} (hfind : find F s = .ok t)
    (hfound : t.startFound = true) : FirstSentinel F t.start.toNat s := by
  obtain ⟨hbits, hlen, -⟩ := (find_frame hfind).buffer
  obtain ⟨hinside, hwindow⟩ := find_found hF hfind hfound
  rw [hlen] at hinside
  rw [hbits] at hwindow
  obtain ⟨q, hfirst⟩ := exists_firstSentinel hinside hwindow
  obtain ⟨-, hstart⟩ := find_firstSentinel hF hfirst hfind
  rwa [hstart]

/-- `FIND` answers `not_found` only over a buffer without a sentinel (R140). -/
theorem windowValue_ne_of_not_found {F : Descriptor} (hF : F.wf = true) {s t : State}
    (hfind : find F s = .ok t) (hnot : t.startFound = false) {p : Nat} (hinside : p + F.width ≤ s.len.toNat) :
    windowValue s.bits p F.width ≠ F.pattern.toNat := by
  intro hwindow
  obtain ⟨q, hfirst⟩ := exists_firstSentinel hinside hwindow
  obtain ⟨hfound, -⟩ := find_firstSentinel hF hfirst hfind
  exact Bool.false_ne_true (hnot.symm.trans hfound)

/-! ### The obligation -/

/-- Settles O24: `FIND` answers over a readable buffer, and its answer is the first sentinel or none. -/
theorem findReportsTheFirstSentinel : Obligations.FindReportsTheFirstSentinel := by
  intro fmt s hread
  have hF := descriptorOf_wf fmt
  obtain ⟨t, hfind⟩ := find_answers (descriptorOf fmt) hread
  refine ⟨t, hfind, find_sameButLocator hfind, fun hfound => ?_,
    fun hnot p hinside => windowValue_ne_of_not_found hF hfind hnot hinside⟩
  obtain ⟨hinside, hhere, hearlier⟩ := firstSentinel_of_found hF hfind hfound
  exact ⟨hinside, hhere, hearlier⟩

end Sys2Proof.Machine
end

section
/-! SUPPORT. The obligations of 42_demodulator about the answer of `DEMOD` (R150 to R162): the run of an `ok(CNT)`,
the first bad symbol of an error, and which cells of `OUT` are written. -/

namespace Sys2Proof.Machine

/-! ### A run that ends without an error -/

/-- `DEMOD` moves no symbol of the run: it writes neither `BITS` nor `START`. -/
theorem symbolAt_of_demod {F : Descriptor} {s t : State} {r : AttemptResult} (h : demod F s = .ok (t, r))
    (k : Nat) : symbolAt F t k = symbolAt F s k := by
  unfold symbolAt
  rw [demod_start h, (demod_frame h).buffer.1]

/-- A run whose first symbol is not null and fits into the buffer does not end before that symbol. -/
theorem EndedRun.cnt_pos {F : Descriptor} {t : State} (h : EndedRun F t) (hfirst : symbolAt F t 0 ≠ 0)
    (hroom : t.start.toNat + F.width ≤ t.len.toNat) : 1 ≤ t.cnt.toNat := by
  refine Nat.one_le_iff_ne_zero.2 fun hzero => ?_
  have hended := h.ended
  rw [hzero, Nat.zero_add, Nat.one_mul] at hended
  rcases hended with hnull | hshort
  · exact hfirst hnull
  · exact absurd hroom (Nat.not_le_of_lt hshort)

theorem popcount_odd_of_parityOk {sym : BitVec 8} (h : parityOk sym = true) : popcount sym % 2 = 1 :=
  beq_iff_eq.1 h

/-- Settles O25: `DEMOD` ends with an `EndedRun`, and the sentinel keeps it from being empty. -/
theorem demodulatedRunIsLegal : Obligations.DemodulatedRunIsLegal := by
  intro fmt s t c hroom hsentinel hdemod
  have hF := descriptorOf_wf fmt
  obtain ⟨-, hlen, -, -, -⟩ := (demod_frame hdemod).buffer
  have hstart := demod_start hdemod
  have hpattern : (descriptorOf fmt).pattern ≠ 0 := by cases fmt <;> decide
  obtain ⟨rfl, hended⟩ := demod_ok hF ((Nat.le_add_right _ _).trans hroom) hdemod
  have hpos : 1 ≤ t.cnt.toNat :=
    hended.cnt_pos (by rwa [symbolAt_of_demod hdemod, hsentinel]) (by rwa [hstart, hlen])
  refine ⟨rfl, hpos, ?_, fun k hk => ?_, hended.terminator⟩
  · rw [← hstart, ← hlen]
    exact hended.inside
  · rw [← symbolAt_of_demod hdemod]
    obtain ⟨hne, hodd, hchar⟩ := hended.legal k hk
    exact ⟨hne, popcount_odd_of_parityOk hodd, hchar⟩

/-! ### A run that ends with an error -/

/-- Why a symbol raises an error, in the order in which the checks are made (R219 item 2). -/
theorem demodSymbol_raised_cause {F : Descriptor} {sym : BitVec 8} {s v : State} {e : ErrCode} {info : Nat}
    (h : demodSymbol F sym s = (v, .raised e info)) :
    info = s.cnt.toNat ∧ sym ≠ 0 ∧
      (parityOk sym = false ∧ e = .symbolParityError ∨
       parityOk sym = true ∧ F.map sym = none ∧ e = .invalidSymbol ∨
       parityOk sym = true ∧ ¬ s.cnt < s.sizeLimit ∧ e = .outputBufferTooSmall) := by
  rcases demodSymbol_cases F sym s with
    ⟨-, h'⟩ | ⟨hne, heven, h'⟩ | ⟨hne, hodd, hmap, h'⟩ | ⟨hne, hodd, -, hfull, h'⟩ | ⟨-, -, -, ch, -, h'⟩
  all_goals
    rw [h'] at h
    cases h
  · exact ⟨rfl, hne, .inl ⟨heven, rfl⟩⟩
  · exact ⟨rfl, hne, .inr (.inl ⟨hodd, hmap, rfl⟩)⟩
  · exact ⟨rfl, hne, .inr (.inr ⟨hodd, hfull, rfl⟩)⟩

/-- A run that has ended with the error `e` (R153, R155, R156): its symbols are legal, and symbol `CNT`, which lies
in the buffer, is the first that fails a check. -/
structure RaisedRun (F : Descriptor) (e : ErrCode) (t : State) : Prop where
  inside  : t.start.toNat + (t.cnt.toNat + 1) * F.width ≤ t.len.toNat
  legal   : LegalSymbols F t t.cnt.toNat
  notNull : symbolAt F t t.cnt.toNat ≠ 0
  cause   : parityOk (symbolAt F t t.cnt.toNat) = false ∧ e = .symbolParityError ∨
    parityOk (symbolAt F t t.cnt.toNat) = true ∧ F.map (symbolAt F t t.cnt.toNat) = none ∧
      e = .invalidSymbol ∨
    parityOk (symbolAt F t t.cnt.toNat) = true ∧ t.cnt = t.sizeLimit ∧ e = .outputBufferTooSmall

theorem RunState.raised {F : Descriptor} (hF : F.wf = true) {n : Nat} {s u v : State} {e : ErrCode}
    {info : Nat} (h : RunState F (n + 1) s) (hshift : shiftIn F s = .ok (u, true))
    (hraised : demodSymbol F u.acc u = (v, .raised e info)) : info = v.cnt.toNat ∧ RaisedRun F e v := by
  obtain ⟨hacc, hlegal⟩ := h.content.of_shiftIn_true hF h.position hshift
  have hread := h.position.of_shiftIn_true hshift
  obtain ⟨-, rfl⟩ := demodSymbol_raised hraised
  rw [hacc] at hraised
  obtain ⟨hinfo, hne, hcause⟩ := demodSymbol_raised_cause hraised
  refine ⟨hinfo, hread.position ▸ hread.inBuffer, hlegal, hne, hcause.imp_right (Or.imp_right ?_)⟩
  rintro ⟨hodd, hfull, he⟩
  exact ⟨hodd, BitVec.le_antisymm hread.limit (BitVec.not_lt.1 hfull), he⟩

/-- With no bit between `START` and `LEN` no error is raised. -/
theorem start_le_len_of_demod_err {F : Descriptor} {s t : State} {e : ErrCode} {info : Nat}
    (h : demod F s = .ok (t, .err e info)) : s.start.toNat ≤ s.len.toNat := by
  refine Nat.le_of_not_le fun hle => ?_
  unfold demod at h
  rw [Nat.sub_eq_zero_of_le hle] at h
  cases h

/-- When `DEMOD` raises an error, its position is `CNT`, and the run has ended at symbol `CNT`. -/
theorem demod_raised {F : Descriptor} (hF : F.wf = true) {s t : State} {e : ErrCode} {info : Nat}
    (h : demod F s = .ok (t, .err e info)) : info = t.cnt.toNat ∧ RaisedRun F e t :=
  demodLoop_induction (P := RunState F)
    (Q := fun t r => ∀ e info, r = .err e info → info = t.cnt.toNat ∧ RaisedRun F e t)
    (fun _ _ _ _ hr => by cases hr)
    (fun _ _ _ hs hshift => hs.of_shiftIn_false hF hshift)
    (fun _ _ _ _ hs hshift hgo => hs.of_demodSymbol_go hF hshift hgo)
    (fun _ _ _ _ _ _ _ _ _ hr => by cases hr)
    (fun _ _ _ _ _ _ hs hshift hraised _ _ hr => by cases hr; exact hs.raised hF hshift hraised)
    (RunState.after_beginDemod hF (start_le_len_of_demod_err h)) h e info rfl

/-- A symbol is a value of `F.W` bits (R63). -/
theorem symbolAt_lt (F : Descriptor) (s : State) (k : Nat) : (symbolAt F s k).toNat < 2 ^ F.width := by
  rw [symbolAt, BitVec.toNat_ofNat]
  exact (Nat.mod_le _ _).trans_lt (windowValue_lt _ _ _)

/-- Settles O26: `DEMOD` ends with a `RaisedRun`, and in the two formats every symbol of odd parity has a
character. -/
theorem demodRaisesAtTheFirstBadSymbol : Obligations.DemodRaisesAtTheFirstBadSymbol := by
  intro fmt s t e n hdemod
  obtain ⟨-, hlen, -, hlimit, -⟩ := (demod_frame hdemod).buffer
  obtain ⟨rfl, hinside, hlegal, hne, hcause⟩ := demod_raised (descriptorOf_wf fmt) hdemod
  rw [demod_start hdemod, hlen] at hinside
  rw [symbolAt_of_demod hdemod] at hne hcause
  refine ⟨rfl, hinside, fun k hk => ?_, hne, ?_⟩
  · obtain ⟨hkne, hkodd, -⟩ := hlegal k hk
    rw [symbolAt_of_demod hdemod] at hkne hkodd
    exact ⟨hkne, hkodd⟩
  · rcases hcause with heven | ⟨hodd, hnone, -⟩ | ⟨hodd, hfull, he⟩
    · exact .inl heven
    · obtain ⟨ch, hch⟩ := map_of_odd fmt _ (symbolAt_lt _ _ _) hodd
      rw [hnone] at hch
      cases hch
    · exact .inr ⟨hodd, by rw [hfull, hlimit], he⟩

/-! ### The cells of `OUT` -/

/-- `DEMOD`, begun at `s`, has counted no more than `SIZE_LIMIT` characters and written no cell from `CNT` on. -/
structure WritesBelowCnt (s u : State) : Prop where
  sizeLimit : u.sizeLimit = s.sizeLimit
  limit     : u.cnt ≤ s.sizeLimit
  untouched : ∀ j, u.cnt.toNat ≤ j → Memory.read? u.out j = Memory.read? s.out j

theorem WritesBelowCnt.after_beginDemod (s : State) : WritesBelowCnt s (beginDemod s) where
  sizeLimit := rfl
  limit := BitVec.le_def.2 (Nat.zero_le _)
  untouched _ _ := rfl

theorem WritesBelowCnt.of_shiftIn {F : Descriptor} {s u v : State} {c : Bool} (h : WritesBelowCnt s u)
    (hshift : shiftIn F u = .ok (v, c)) : WritesBelowCnt s v := by
  obtain ⟨b, -, ⟨-, -, rfl⟩ | ⟨-, -, rfl⟩⟩ := shiftIn_cases hshift <;>
    exact ⟨h.sizeLimit, h.limit, h.untouched⟩

/-- The cell of a character is cell `CNT`, which is below the limit (R156, R157). -/
theorem WritesBelowCnt.of_demodSymbol_go {F : Descriptor} {sym : BitVec 8} {s u v : State}
    (h : WritesBelowCnt s u) (hgo : demodSymbol F sym u = (v, .go)) : WritesBelowCnt s v := by
  obtain ⟨-, -, hlimit, ch, -, rfl⟩ := demodSymbol_go hgo
  have hlt := BitVec.lt_def.1 hlimit
  have hcnt : (countChar (outWriteAtCnt u ch)).cnt.toNat = u.cnt.toNat + 1 := toNat_add_one_of_lt hlt
  refine ⟨h.sizeLimit, ?_, fun j hj => ?_⟩
  · rw [BitVec.le_def, hcnt, ← h.sizeLimit]
    exact hlt
  · rw [hcnt] at hj
    exact (Memory.read?_write_other _ _ (Nat.ne_of_gt hj)).trans (h.untouched j (Nat.le_of_lt hj))

/-- The terminator stands in cell `CNT` (R158). -/
theorem WritesBelowCnt.above_terminator {s u : State} (h : WritesBelowCnt s u) {j : Nat}
    (hj : u.cnt.toNat < j) : Memory.read? (terminate u).out j = Memory.read? s.out j :=
  (Memory.read?_write_other _ _ (Nat.ne_of_gt hj)).trans (h.untouched j (Nat.le_of_lt hj))

/-- What `DEMOD`, begun at `s`, has written when it answers: cell `CNT`, for the terminator, only without an error
(R158, R161). -/
structure WritesAtMostTerminator (s t : State) (r : AttemptResult) : Prop where
  limit   : t.cnt ≤ s.sizeLimit
  above   : ∀ j, t.cnt.toNat < j → Memory.read? t.out j = Memory.read? s.out j
  onError : ∀ e n, r = .err e n → ∀ j, t.cnt.toNat ≤ j → Memory.read? t.out j = Memory.read? s.out j

theorem WritesBelowCnt.terminated {s u : State} (h : WritesBelowCnt s u) :
    WritesAtMostTerminator s (terminate u) (.ok u.cnt) :=
  ⟨h.limit, fun _ hj => h.above_terminator hj, nofun⟩

theorem demod_writes {F : Descriptor} {s t : State} {r : AttemptResult} (h : demod F s = .ok (t, r)) :
    WritesAtMostTerminator s t r :=
  demodLoop_induction (P := fun _ u => WritesBelowCnt s u) (Q := WritesAtMostTerminator s)
    (fun _ hu => hu.terminated)
    (fun _ _ _ hu hshift => hu.of_shiftIn hshift)
    (fun _ _ _ _ hu hshift hgo => (hu.of_shiftIn hshift).of_demodSymbol_go hgo)
    (fun _ _ _ _ hu hshift hstop => by
      obtain ⟨-, rfl⟩ := demodSymbol_stop hstop
      exact (hu.of_shiftIn hshift).terminated)
    (fun _ _ _ _ _ _ hu hshift hraised => by
      obtain ⟨-, rfl⟩ := demodSymbol_raised hraised
      obtain ⟨-, hlimit, huntouched⟩ := hu.of_shiftIn hshift
      exact ⟨hlimit, fun j hj => huntouched j (Nat.le_of_lt hj), fun _ _ _ => huntouched⟩)
    (WritesBelowCnt.after_beginDemod s) h

/-- Settles O27: a cell above `SIZE_LIMIT` is above `CNT`. -/
theorem demodNeverWritesAboveTheLimit : Obligations.DemodNeverWritesAboveTheLimit := by
  intro F s t r hdemod
  obtain ⟨hlimit, habove, honError⟩ := demod_writes hdemod
  exact ⟨hlimit, fun j hj => habove j ((BitVec.le_def.1 hlimit).trans_lt hj), honError⟩

end Sys2Proof.Machine
end

section
/-! SUPPORT. The obligations of 42_demodulator about symbols as steps of the machine (log 5): a legal symbol at the
limit (R156), and the attempt of a `STEP` run symbol by symbol. -/

open Sys2Proof.Claims

namespace Sys2Proof.Machine

/-! ### A legal symbol at the limit -/

theorem demodSymbol_full (F : Descriptor) {sym : BitVec 8} (hodd : parityOk sym = true) {ch : Char8}
    (hmap : F.map sym = some ch) {s : State} (hfull : s.sizeLimit ≤ s.cnt) :
    demodSymbol F sym s = (s, .raised .outputBufferTooSmall s.cnt.toNat) := by
  unfold demodSymbol
  rw [if_neg (ne_zero_of_parityOk hodd), if_pos hodd, hmap]
  exact if_neg (BitVec.not_lt.2 hfull)

/-- A legal symbol without room below the limit (R156). -/
theorem symbolTurn_too_many {s : State} (hd : demodulating s = true) (hread : Readable s) {fmt : Format}
    (hfmt : s.fmt = fmt) {sym : BitVec 8} (hodd : parityOk sym = true) {ch : Char8}
    (hmap : (descriptorOf fmt).map sym = some ch) (hfull : s.sizeLimit ≤ s.cnt) :
    ErrorTaken .outputBufferTooSmall s (symbolTurn fmt sym s) := by
  rw [symbolTurn_of_demodulating hd hfmt (demodSymbol_full _ hodd hmap hfull)]
  exact errorTaken_of_readable _ hread

/-- Settles O40: each listed symbol is the row of an odd pattern, which has a character. -/
theorem legalSymbolsBeyondTheLimitAreTooMany : Obligations.LegalSymbolsBeyondTheLimitAreTooMany := by
  refine fun s hd hread hfull => ⟨fun hfmt p hp => ?_, fun hfmt p hp => ?_⟩
  · rw [num5Characters_eq] at hp
    obtain ⟨v, hodd, rfl⟩ := mem_listing.1 hp
    rw [exec_decodeSym5]
    exact symbolTurn_too_many hd hread hfmt hodd ((num5Map_setWidth v).trans (if_pos hodd)) hfull
  · rw [alpha7Characters_eq] at hp
    obtain ⟨v, hodd, rfl⟩ := mem_listing.1 hp
    rw [exec_decodeSym7]
    exact symbolTurn_too_many hd hread hfmt hodd (alpha7Map_eq _) hfull

/-! ### What follows `DEMOD` in an attempt -/

/-- The rest of an attempt once `DEMOD` has answered: an error is taken, a run goes to the validator, and the Direction
Resolver takes the validator's answer (R181, R186, R187). -/
def resolveDemod (F : Descriptor) : State × AttemptResult → Except Fault State
  | (t, .err e _) => takeError e t
  | (t, .ok _) => do
    let r ← validate F t
    resolveAttempt r t

/-- An attempt whose `FIND` has answered an offset is `DEMOD` and what follows it. -/
theorem runAttempt_of_found {F : Descriptor} {s u : State} (hfind : find F s = .ok u)
    (hfound : u.startFound = true) : runAttempt F s = demod F u >>= resolveDemod F := by
  unfold runAttempt attempt
  simp only [hfind, except_ok_bind, hfound, if_true]
  rcases demod F u with f | ⟨t, c | ⟨e, info⟩⟩
  · rfl
  · simp only [except_ok_bind, resolveDemod]
    cases validate F t <;> rfl
  · rfl

/-- The run that ends without an error is concluded alike by both ways of running an attempt. -/
theorem resolveDemod_terminate (F : Descriptor) (v : State) (c : BitVec 8) :
    resolveDemod F (terminate v, .ok c) = concludeRun F v := rfl

theorem exec_step_of_decoding {s : State} (h : s.phase.decoding = true) :
    exec .step s = ofExcept (runAttempt (descriptorOf s.fmt) s) := by
  show execStep s = _
  unfold execStep
  rcases (Phase.decoding_iff _).1 h with hphase | hphase <;> rw [hphase]

/-! ### The engine's field has no part in an attempt -/

/-- The state with another value of the model's own field `engine`. -/
def withEngine (e : Engine) (s : State) : State :=
  { s with engine := e }

theorem enterDemod_eq (s : State) : enterDemod s = withEngine .demodulating (beginDemod s) := rfl

theorem shiftIn_withEngine {F : Descriptor} {s u : State} {c : Bool} (x : Engine)
    (h : shiftIn F s = .ok (u, c)) : shiftIn F (withEngine x s) = .ok (withEngine x u, c) := by
  obtain ⟨b, hb, ⟨hw, rfl, rfl⟩ | ⟨hw, rfl, rfl⟩⟩ := shiftIn_cases h
  · exact shiftIn_of_last_bit (s := withEngine x s) hb hw
  · exact shiftIn_of_earlier_bit (s := withEngine x s) hb hw

/-- An odd symbol without a character (R155), which neither format has. -/
theorem demodSymbol_unmapped (F : Descriptor) {sym : BitVec 8} (hodd : parityOk sym = true)
    (hmap : F.map sym = none) (s : State) :
    demodSymbol F sym s = (s, .raised .invalidSymbol s.cnt.toNat) := by
  unfold demodSymbol
  rw [if_neg (ne_zero_of_parityOk hodd), if_pos hodd, hmap]

theorem demodSymbol_withEngine {F : Descriptor} {sym : BitVec 8} {s v : State} {turn : Turn} (x : Engine)
    (h : demodSymbol F sym s = (v, turn)) :
    demodSymbol F sym (withEngine x s) = (withEngine x v, turn) := by
  rcases demodSymbol_cases F sym s with
    ⟨rfl, h'⟩ | ⟨hne, heven, h'⟩ | ⟨-, hodd, hmap, h'⟩ | ⟨-, hodd, ⟨ch, hmap⟩, hfull, h'⟩ |
      ⟨-, hodd, hroom, ch, hmap, h'⟩
  all_goals
    rw [h'] at h
    cases h
  · exact demodSymbol_null F _
  · exact demodSymbol_even F hne heven _
  · exact demodSymbol_unmapped F hodd hmap _
  · exact demodSymbol_full F hodd hmap (s := withEngine x s) (BitVec.not_lt.1 hfull)
  · exact demodSymbol_odd F hodd hmap (s := withEngine x s) hroom

theorem demodLoop_withEngine {F : Descriptor} {n : Nat} {s t : State} {r : AttemptResult} (x : Engine)
    (h : demodLoop F n s = .ok (t, r)) : demodLoop F n (withEngine x s) = .ok (withEngine x t, r) := by
  induction n generalizing s with
  | zero =>
    cases h
    rfl
  | succ n ih =>
    rcases demodLoop_succ h with ⟨u, hshift, hrest⟩ | ⟨u, v, turn, hshift, hv, hend⟩
    · rw [demodLoop_of_bit (shiftIn_withEngine x hshift)]
      exact ih hrest
    · rw [demodLoop_of_symbol (shiftIn_withEngine x hshift) (demodSymbol_withEngine x hv)]
      rcases hend with ⟨rfl, hrest⟩ | ⟨rfl, rfl, rfl⟩ | ⟨e, info, rfl, rfl, rfl⟩
      · exact ih hrest
      · rfl
      · rfl

theorem validate_withEngine (F : Descriptor) (x : Engine) (s : State) :
    validate F (withEngine x s) = validate F s :=
  SameRun.validate_eq (s := s) (u := withEngine x s)
    ⟨⟨rfl, rfl, fun _ _ => rfl⟩, rfl, rfl, rfl, rfl, rfl, fun _ _ => rfl⟩ F

theorem swapPair_withEngine {s t : State} {i : Nat} (x : Engine) (h : swapPair s i = .ok t) :
    swapPair (withEngine x s) i = .ok (withEngine x t) := by
  obtain ⟨a, b, ha, hb, hi, hj, rfl⟩ := swapPair_eq_ok h
  have ha' : bitRead (withEngine x s) i = .ok a := ha
  have hb' : bitRead (withEngine x s) ((withEngine x s).len.toNat - 1 - i) = .ok b := hb
  unfold swapPair
  rw [ha', except_ok_bind, hb', except_ok_bind, bitWrite_of_lt (by exact hi), except_ok_bind]
  exact bitWrite_of_lt (by exact hj) a

theorem reversePairs_withEngine {n : Nat} {s t : State} (x : Engine) (h : reversePairs n s = .ok t) :
    reversePairs n (withEngine x s) = .ok (withEngine x t) := by
  induction n generalizing t with
  | zero =>
    cases h
    rfl
  | succ n ih =>
    obtain ⟨u, hu, hswap⟩ := except_bind_ok h
    unfold reversePairs
    rw [ih hu, except_ok_bind]
    exact swapPair_withEngine x hswap

/-- In a decoding state the error is taken alike, and the engine comes to rest. -/
theorem takeError_withEngine {e : ErrCode} {s t : State} (x : Engine) (hdecoding : s.phase.decoding = true)
    (h : takeError e s = .ok t) : takeError e (withEngine x s) = .ok t := by
  rcases takeError_cases h with ⟨hphase, u, hu, rfl⟩ | ⟨hphase, rfl⟩ | ⟨hno, -⟩
  · have hreverse : reverse (recordFwdError e (withEngine x s)) = .ok (withEngine x u) :=
      reversePairs_withEngine x hu
    unfold takeError
    rw [show (withEngine x s).phase = .decodingFwd from hphase]
    simp only [hreverse, except_ok_bind]
    rfl
  · unfold takeError
    rw [show (withEngine x s).phase = .decodingRev from hphase]
    rfl
  · rw [hdecoding] at hno
    cases hno

theorem resolveAttempt_withEngine {r : AttemptResult} {s t : State} (x : Engine)
    (hdecoding : s.phase.decoding = true) (h : resolveAttempt r s = .ok t) :
    resolveAttempt r (withEngine x s) = .ok t := by
  cases r with
  | err e info => exact takeError_withEngine x hdecoding h
  | ok c =>
    cases h
    have haccept : acceptRecord c (withEngine x s) = acceptRecord c s := by
      rcases (Phase.decoding_iff _).1 hdecoding with hphase | hphase <;>
        simp only [acceptRecord, withEngine, hphase] <;> rfl
    exact congrArg Except.ok haccept

theorem resolveDemod_withEngine {F : Descriptor} {s t : State} {r : AttemptResult} (x : Engine)
    (hdecoding : s.phase.decoding = true) (h : resolveDemod F (s, r) = .ok t) :
    resolveDemod F (withEngine x s, r) = .ok t := by
  cases r with
  | err e info => exact takeError_withEngine x hdecoding h
  | ok c =>
    obtain ⟨r', hr', hresolve⟩ := except_bind_ok h
    unfold resolveDemod
    simp only [validate_withEngine, hr', except_ok_bind]
    exact resolveAttempt_withEngine x hdecoding hresolve

/-! ### One symbol of the loop is one step of the machine -/

/-- The value a completed symbol leaves in the accumulator is the symbol the machine executes. -/
theorem exec_symbolInstr_of_lt {fmt : Format} {acc : BitVec 8}
    (hacc : acc.toNat < 2 ^ (descriptorOf fmt).width) (s : State) :
    exec (symbolInstr fmt acc) s = symbolTurn fmt acc s := by
  have hwide : ∀ {w : Nat}, w ≤ 8 → acc.toNat < 2 ^ w → (acc.setWidth w).setWidth 8 = acc :=
    fun hw hlt => BitVec.eq_of_toNat_eq (by
      rw [BitVec.toNat_setWidth_of_le hw, BitVec.toNat_setWidth, Nat.mod_eq_of_lt hlt])
  cases fmt with
  | num5 => exact (exec_decodeSym5 _ s).trans (congrArg (symbolTurn .num5 · s) (hwide (by decide) hacc))
  | alpha7 => exact (exec_decodeSym7 _ s).trans (congrArg (symbolTurn .alpha7 · s) (hwide (by decide) hacc))

theorem shiftIn_acc_lt {F : Descriptor} (hF : F.wf = true) {s u : State} {c : Bool}
    (h : shiftIn F s = .ok (u, c)) : u.acc.toNat < 2 ^ F.width := by
  obtain ⟨b, -, ⟨-, -, rfl⟩ | ⟨-, -, rfl⟩⟩ := shiftIn_cases h
  all_goals
    show (accUpdate F s.acc b).toNat < _
    rw [accUpdate_toNat hF]
    exact Nat.mod_lt _ (Nat.two_pow_pos _)

/-- A fetch that finds no symbol has taken in what the loop takes in before it ends at `LEN` (R159). -/
theorem demodLoop_of_gatherSymbol_none {F : Descriptor} {n : Nat} {s u : State}
    (h : gatherSymbol F n s = .ok (u, none)) : demodLoop F n s = .ok (terminate u, .ok u.cnt) := by
  induction n generalizing s with
  | zero =>
    cases h
    rfl
  | succ n ih =>
    obtain ⟨⟨v, c⟩, hshift, -⟩ := except_bind_ok h
    rw [gatherSymbol_succ hshift] at h
    cases c with
    | true => cases h
    | false =>
      rw [demodLoop_of_bit hshift]
      exact ih h

/-- A fetch that finds a symbol has taken in what the loop takes in up to the symbol's last bit, after which `m` bits
are left. -/
theorem demodLoop_of_gatherSymbol_some {F : Descriptor} {n : Nat} {s u : State} {sym : BitVec 8}
    (h : gatherSymbol F n s = .ok (u, some sym)) :
    ∃ v m, m < n ∧ shiftIn F v = .ok (u, true) ∧ u.acc = sym ∧
      demodLoop F n s = demodLoop F (m + 1) v ∧ u.idx.toNat + m = s.idx.toNat + n := by
  induction n generalizing s with
  | zero => cases h
  | succ n ih =>
    obtain ⟨⟨v, c⟩, hshift, -⟩ := except_bind_ok h
    obtain ⟨-, hidx, -⟩ := shiftIn_moves hshift
    rw [gatherSymbol_succ hshift] at h
    cases c with
    | true =>
      cases h
      exact ⟨s, n, Nat.lt_succ_self n, hshift, rfl, rfl, by omega⟩
    | false =>
      obtain ⟨w, m, hm, hlast, hacc, hloop, hleft⟩ := ih h
      rw [demodLoop_of_bit hshift]
      exact ⟨w, m, by omega, hlast, hacc, hloop, by omega⟩

/-- After the last bit of a symbol the loop goes on with the `m` bits left, or the attempt ends as the turn of the
symbol ends it. -/
theorem demodLoop_goes_on_or_ends {F : Descriptor} {m : Nat} {s u v : State} {turn : Turn}
    (hshift : shiftIn F s = .ok (u, true)) (hv : demodSymbol F u.acc u = (v, turn)) :
    turn = .go ∧ demodLoop F (m + 1) s = demodLoop F m v ∨
    ofExcept (demodLoop F (m + 1) s >>= resolveDemod F) = afterTurn F v turn := by
  rw [demodLoop_of_symbol hshift hv]
  cases turn with
  | go => exact .inl ⟨rfl, rfl⟩
  | stop => exact .inr rfl
  | raised e info => exact .inr rfl

theorem core_run_one (s : State) : Sys2Proof.core.run 1 s = step s := by
  have hstep : Sys2Proof.core.step s = step s := rfl
  simp only [Host.Core.run, hstep]
  cases step s <;> rfl

/-! ### The run of the machine -/

/-- The demodulator of a format stands over a readable buffer, `n` bits before `LEN`. -/
structure BeforeSymbol (fmt : Format) (n : Nat) (s : State) : Prop where
  running  : demodulating s = true
  format   : s.fmt = fmt
  readable : Readable s
  left     : s.idx.toNat + n = s.len.toNat

/-- What a fetch or a symbol leaves alone. -/
theorem BeforeSymbol.of_sameButWork {fmt : Format} {n m : Nat} {s t : State} (h : BeforeSymbol fmt n s)
    (hst : SameButWork s t) (hleft : t.idx.toNat + m = s.idx.toNat + n) : BeforeSymbol fmt m t := by
  obtain ⟨-, hlen, hfmt, -, -⟩ := hst.buffer
  obtain ⟨hphase, -, hengine⟩ := hst.control
  refine ⟨?_, hfmt.trans h.format, h.readable.of_sameButWork hst, ?_⟩
  · rw [demodulating_iff, hphase, hengine, ← demodulating_iff]
    exact h.running
  · rw [hlen, hleft, h.left]

theorem BeforeSymbol.fetchSymbol_eq {fmt : Format} {n : Nat} {s : State} (h : BeforeSymbol fmt n s) :
    fetchSymbol (descriptorOf s.fmt) s = gatherSymbol (descriptorOf fmt) n s := by
  rw [fetchSymbol, h.format, ← h.left, Nat.add_sub_cancel_left]

theorem BeforeSymbol.step_at_end {fmt : Format} {n : Nat} {s u : State} (h : BeforeSymbol fmt n s)
    (hgather : gatherSymbol (descriptorOf fmt) n s = .ok (u, none)) :
    step s = ofExcept (concludeRun (descriptorOf fmt) u) := by
  obtain ⟨-, -, hfmt, -, -⟩ := (gatherSymbol_frame hgather).buffer
  rw [step_of_fetchSymbol_none h.running (h.fetchSymbol_eq.trans hgather), hfmt, h.format]

theorem BeforeSymbol.step_of_symbol {fmt : Format} {n m : Nat} {s u v : State} {acc : BitVec 8}
    {turn : Turn} (h : BeforeSymbol fmt n s) (hu : BeforeSymbol fmt m u)
    (hgather : gatherSymbol (descriptorOf fmt) n s = .ok (u, some acc))
    (hacc : acc.toNat < 2 ^ (descriptorOf fmt).width)
    (hv : demodSymbol (descriptorOf fmt) acc u = (v, turn)) :
    step s = afterTurn (descriptorOf fmt) v turn := by
  rw [step_of_fetchSymbol_some h.running (h.fetchSymbol_eq.trans hgather), h.format,
    exec_symbolInstr_of_lt hacc, symbolTurn_of_demodulating hu.running hu.format hv]

/-- The machine, running one symbol a step, ends where the loop and what follows it end: by induction on the bits left,
one step for each symbol and one for the end of the buffer. -/
theorem BeforeSymbol.run_eq {fmt : Format} {n : Nat} {s : State} (h : BeforeSymbol fmt n s) :
    ∃ k, Sys2Proof.core.run k s =
      ofExcept (demodLoop (descriptorOf fmt) n s >>= resolveDemod (descriptorOf fmt)) := by
  induction n using Nat.strong_induction_on generalizing s with
  | _ n ih =>
    obtain ⟨u, o, hgather⟩ := gatherSymbol_answers (F := descriptorOf fmt) h.readable h.left
    cases o with
    | none =>
      refine ⟨1, ?_⟩
      rw [core_run_one, h.step_at_end hgather, demodLoop_of_gatherSymbol_none hgather, except_ok_bind,
        resolveDemod_terminate]
    | some sym =>
      obtain ⟨w, m, hm, hshift, rfl, hloop, hleft⟩ := demodLoop_of_gatherSymbol_some hgather
      have hu : BeforeSymbol fmt m u := h.of_sameButWork (gatherSymbol_frame hgather) hleft
      rcases hv : demodSymbol (descriptorOf fmt) u.acc u with ⟨v, turn⟩
      have hstep := h.step_of_symbol hu hgather (shiftIn_acc_lt (descriptorOf_wf fmt) hshift) hv
      rw [hloop]
      rcases demodLoop_goes_on_or_ends (m := m) hshift hv with ⟨rfl, hgo⟩ | hend
      · have huv := demodSymbol_frame (descriptorOf fmt) u.acc u
        rw [hv] at huv
        obtain ⟨k, hk⟩ := ih m hm (hu.of_sameButWork huv (by rw [demodSymbol_go_idx hv]))
        exact ⟨k + 1, by rw [core_run_succ_of_next hstep, hk, hgo]⟩
      · exact ⟨1, by rw [core_run_one, hstep, hend]⟩

/-- An attempt that `FIND` has begun stands before its first symbol. -/
theorem BeforeSymbol.of_found {s u : State} (hread : Readable s) (hdecoding : s.phase.decoding = true)
    (hfind : find (descriptorOf s.fmt) s = .ok u) (hfound : u.startFound = true) :
    BeforeSymbol s.fmt (u.len.toNat - u.start.toNat) (enterDemod u) := by
  have hsu := find_frame hfind
  obtain ⟨-, -, hfmt, -, -⟩ := hsu.buffer
  obtain ⟨hphase, -, -⟩ := hsu.control
  obtain ⟨hcap, hcells⟩ := hread.of_sameButWork hsu
  have hstart := (find_found (descriptorOf_wf s.fmt) hfind hfound).start_le_len
  exact ⟨(demodulating_iff _).2 ⟨rfl, by rw [← hphase] at hdecoding; exact hdecoding⟩, hfmt, ⟨hcap, hcells⟩,
    Nat.add_sub_cancel' hstart⟩

/-- Settles O57: the machine runs `DEMOD` and what follows it from the state that `FIND` has left, and the engine's
field makes no difference to where they end. -/
theorem stepIsItsSymbolsOneByOne : Obligations.StepIsItsSymbolsOneByOne := by
  intro s u hread hdecoding hfind hfound
  obtain ⟨t, ht⟩ := runAttempt_answers (descriptorOf_wf s.fmt) hread
  obtain ⟨k, hk⟩ := (BeforeSymbol.of_found hread hdecoding hfind hfound).run_eq
  refine ⟨k, ?_⟩
  rw [exec_step_of_decoding hdecoding, ht, hk]
  rw [runAttempt_of_found hfind hfound] at ht
  obtain ⟨⟨v, r⟩, hdemod, hresolve⟩ := except_bind_ok ht
  have hv : v.phase.decoding = true := by
    rwa [(demod_frame hdemod).control.1, (find_frame hfind).control.1]
  rw [enterDemod_eq, demodLoop_withEngine _ hdemod, except_ok_bind, resolveDemod_withEngine _ hv hresolve]

end Sys2Proof.Machine
end

section
/-! SUPPORT. The two checks of the validator (R171, R172, R173): what `ENDCHK` answers over readable characters,
which column `LRC` reports, and that an error of the first check ends the validation. -/

namespace Sys2Proof.Machine

/-! ### The end sentinel -/

/-- Over readable characters `ENDCHK` tests the second-to-last one (R171). -/
theorem endchk_eq {F : Descriptor} {s : State}
    (hchars : ∀ j, j < s.cnt.toNat → (Memory.read? s.out j).isSome = true) :
    endchk F s = if 2 ≤ s.cnt.toNat ∧ Memory.read? s.out (s.cnt.toNat - 2) = some F.endChar
      then .ok .pass else .ok (.raised .malformedTerminator s.cnt.toNat) := by
  obtain ⟨c, hc⟩ := endchk_answers F hchars
  rw [hc]
  rcases endchk_cases hc with ⟨hfew, rfl⟩ | ⟨ch, htwo, hread, ⟨rfl, rfl⟩ | ⟨hother, rfl⟩⟩
  · exact (if_neg fun h => by omega).symm
  · exact (if_pos ⟨htwo, (outRead_eq_ok.1 hread).2⟩).symm
  · refine (if_neg fun ⟨_, hend⟩ => hother ?_).symm
    exact Option.some.inj ((outRead_eq_ok.1 hread).2.symm.trans hend)

/-- Settles O28: both formats have the end sentinel `0x3F`. -/
theorem endchkTestsTheSecondToLastCharacter : Obligations.EndchkTestsTheSecondToLastCharacter := by
  intro fmt s hchars
  rw [endchk_eq hchars, descriptorOf_endChar]

/-! ### The lowest odd column -/

/-- The column reported is one of those looked at, it is odd, and those looked at before it are even. -/
theorem lrcFrom_raised_lowest {F : Descriptor} {s : State} (hrun : RunReadable F s) {e : ErrCode}
    {c n d : Nat} (hcolumns : c + n ≤ F.width) (h : lrcFrom F s c n = .ok (.raised e d)) :
    d < c + n ∧ columnTotal F s d s.cnt.toNat % 2 = 1 ∧
      ∀ i, c ≤ i → i < d → columnTotal F s i s.cnt.toNat % 2 = 0 := by
  induction n generalizing c with
  | zero => cases h
  | succ n ih =>
    rw [lrcFrom_of_columnTotal hrun n (by omega)] at h
    split at h
    case isTrue hodd =>
      cases h
      exact ⟨by omega, hodd, fun i hlow hhigh => by omega⟩
    case isFalse heven =>
      obtain ⟨hd, hodd, hbelow⟩ := ih (by omega) h
      refine ⟨by omega, hodd, fun i hlow hhigh => ?_⟩
      rcases Nat.lt_or_eq_of_le hlow with hlt | rfl
      · exact hbelow i hlt hhigh
      · omega

/-- Settles O29: over a readable run the check answers; when it passes every data column is even, and when it
raises the columns it has passed over are. -/
theorem lrcReportsTheLowestOddColumn : Obligations.LrcReportsTheLowestOddColumn := by
  intro fmt s hrun
  have hcolumns : 0 + ((descriptorOf fmt).width - 1) ≤ (descriptorOf fmt).width := by omega
  obtain ⟨k, hk⟩ : ∃ k, lrc (descriptorOf fmt) s = .ok k := lrcFrom_answers hrun hcolumns
  cases k with
  | pass => exact .inl ⟨hk, fun c hc => (lrc_pass_iff hrun).1 hk c (by omega)⟩
  | raised e c =>
    obtain rfl := lrcFrom_raised hk
    obtain ⟨hc, hodd, hbelow⟩ := lrcFrom_raised_lowest hrun hcolumns hk
    exact .inr ⟨c, hk, by omega, hodd, fun d hd => hbelow d (Nat.zero_le d) hd⟩

/-! ### The order of the checks -/

/-- An error of `ENDCHK` is the validator's answer (R173). -/
theorem validate_of_endchk_raised {F : Descriptor} {s : State} {e : ErrCode} {info : Nat}
    (h : endchk F s = .ok (.raised e info)) : validate F s = .ok (.err e info) := by
  unfold validate
  rw [h, except_ok_bind]

/-- Settles O31: the error is the validator's answer, and `ENDCHK` raises no other than `MalformedTerminator`. -/
theorem terminatorErrorHidesTheLrc : Obligations.TerminatorErrorHidesTheLrc :=
  fun _ _ _ _ h => ⟨validate_of_endchk_raised h, endchk_raised h⟩

end Sys2Proof.Machine
end

section
/-! SUPPORT. The card-present events, `STEP` and `REVERSE` (R182 to R188): the next state of each in every class of
`STATE`, and the moves of `STATE` (R193). -/

open Sys2Proof.Claims

namespace Sys2Proof.Machine

/-! ### `CARDON` and `CARDOFF` -/

theorem exec_cardOn (s : State) : exec .cardOn s =
    if s.card = true then .next (latchCard true s)
    else if s.phase.quiet = true then .next (openCapture (resetBuffer (latchCard true s)))
    else .next (markHaz (latchCard true s)) := rfl

theorem exec_cardOff (s : State) : exec .cardOff s =
    if s.card = true ∧ s.phase = .capturing then .next (setPhase .captureComplete (latchCard false s))
    else .next (latchCard false s) := rfl

/-- Latching the level that is already there is no edge. -/
theorem latchCard_of_card {s : State} {level : Bool} (h : s.card = level) : latchCard level s = s := by
  subst h
  rfl

/-- Settles O20: with `CARD = 1` there is no edge; otherwise the class of `STATE` decides. -/
theorem cardOnStartsACaptureFromQuietStates : Obligations.CardOnStartsACaptureFromQuietStates := by
  intro s
  simp only [Phase.mem_quiet_list_iff]
  refine ⟨fun hcard => ?_, fun hcard hquiet => ?_, fun hcard hquiet => ?_⟩
  · rw [exec_cardOn, if_pos hcard, latchCard_of_card hcard]
  · rw [exec_cardOn, if_neg (by simp [hcard]), if_pos hquiet]
    rfl
  · rw [exec_cardOn, if_neg (by simp [hcard]), if_neg hquiet]
    rfl

/-- Settles O21: `CARD` is lowered in every state, and `STATE` moves at the end of a capture only. -/
theorem cardOffEndsACapture : Obligations.CardOffEndsACapture := by
  intro s
  simp only [exec_cardOff, setPhase, latchCard]

/-! ### `STEP` outside an attempt -/

theorem exec_step_captureComplete {s : State} (h : s.phase = .captureComplete) :
    exec .step s = .next (setPhase .decodingFwd s) := by
  show execStep s = _
  unfold execStep
  rw [h]

/-- Where no decode is under way the engine has nothing to do (R188). -/
theorem exec_step_not_busy {s : State} (h : s.phase.busy = false) : exec .step s = .next s := by
  show execStep s = _
  unfold execStep
  cases hphase : s.phase
  case captureComplete | decodingFwd | decodingRev =>
    rw [hphase] at h
    cases h
  all_goals rfl

theorem Phase.mem_not_busy_list_iff (p : Phase) :
    p ∈ [.idle, .capturing, .successFwd, .successRev, .failure] ↔ p.busy = false := by
  cases p <;> decide

/-- Settles O22: the listed states are the ones that are not busy. -/
theorem stepOutsideAnAttempt : Obligations.StepOutsideAnAttempt :=
  fun s => ⟨exec_step_captureComplete,
    fun h => exec_step_not_busy (s.phase.mem_not_busy_list_iff.1 h)⟩

/-! ### `ATTEMPT` and `REVERSE` -/

/-- Settles O32, from the frame and the errors of the stages. -/
theorem attemptWritesOutAndWorkingRegistersOnly : Obligations.AttemptWritesOutAndWorkingRegistersOnly := by
  intro F s t r h
  refine ⟨attempt_frame h, ?_⟩
  rintro e n rfl
  exact attempt_err h

theorem reversePairs_bits_wf {n : Nat} {s t : State} (hwf : Memory.wf s.bits = true)
    (h : reversePairs n s = .ok t) : Memory.wf t.bits = true := by
  induction n generalizing t with
  | zero =>
    cases h
    exact hwf
  | succ n ih =>
    obtain ⟨u, hu, hswap⟩ := except_bind_ok h
    obtain ⟨a, b, -, -, -, -, rfl⟩ := swapPair_eq_ok hswap
    exact Memory.wf_write (Memory.wf_write (ih hu) _ _) _ _

/-- The valid bits reversed twice read as they did. -/
theorem ReversedPrefix.read?_twice {s : State} {m m' : Cells 1} (h : ReversedPrefix s m)
    (h' : ReversedPrefix { s with bits := m } m') (i : Nat) :
    Memory.read? m' i = Memory.read? s.bits i := by
  obtain ⟨hbelow, habove⟩ := h
  obtain ⟨hbelow', habove'⟩ := h'
  simp only at hbelow' habove'
  by_cases hi : i < s.len.toNat
  · have hmirror : s.len.toNat - 1 - (s.len.toNat - 1 - i) = i := by omega
    rw [hbelow' i hi, hbelow _ (by omega), hmirror]
  · rw [habove' i (by omega), habove i (by omega)]

/-- `REVERSE` undoes itself (R182). -/
theorem reverse_twice {s t u : State} (hwf : Memory.wf s.bits = true) (h : reverse s = .ok t)
    (h' : reverse t = .ok u) : u = s := by
  have hreversed := reversedPrefix_of_reverse h
  have hreversed' := reversedPrefix_of_reverse h'
  have hwf' : Memory.wf u.bits = true := reversePairs_bits_wf (reversePairs_bits_wf hwf h) h'
  rw [reverse_frame h] at hreversed'
  have hbits : u.bits = s.bits := Memory.ext_of_read? hwf' hwf (hreversed.read?_twice hreversed')
  rw [reverse_frame h', reverse_frame h, hbits]

/-- Settles O34: the swaps of `REVERSE` answer over a readable buffer, and there is none to make when `LEN <= 1`. -/
theorem reverseReversesTheValidPrefix : Obligations.ReverseReversesTheValidPrefix := by
  intro s hread
  obtain ⟨t, ht, hread'⟩ : ∃ t, reverse s = .ok t ∧ Readable t := reversePairs_answers hread le_rfl
  refine ⟨⟨t.bits, reversedPrefix_of_reverse ht, ?_⟩, fun hshort => ?_, fun hwf => ⟨t, ht, ?_⟩⟩
  · rw [ht, ← reverse_frame ht]
  · have hlen : s.len.toNat ≤ 1 := BitVec.le_def.1 hshort
    have hpairs : s.len.toNat / 2 = 0 := by omega
    rw [reverse, hpairs, reversePairs]
  · obtain ⟨u, hu⟩ := reverse_answers hread'
    rw [hu, reverse_twice hwf ht hu]

/-! ### `STEP` in the decoding states -/

/-- What a `STEP` makes of the result of its attempt, `t` being the state the attempt has left: the record
accepted, or the error taken. -/
def StepResolves (s t : State) : AttemptResult → Prop
  | .ok c => RecordAccepted c t (exec .step s)
  | .err e _ => ErrorTaken e t (exec .step s)

theorem stepResolves_of_attempt {s t : State} {r : AttemptResult} (hread : Readable s)
    (hdecoding : s.phase.decoding = true) (h : attempt (descriptorOf s.fmt) s = .ok (t, r)) :
    StepResolves s t r := by
  have hstep : exec .step s = ofExcept (resolveAttempt r t) := by
    rw [exec_step_of_decoding hdecoding, runAttempt, h, except_ok_bind]
  cases r with
  | ok c =>
    show RecordAccepted c t _
    rw [hstep]
    exact recordAccepted_acceptRecord c t
  | err e info =>
    show ErrorTaken e t _
    rw [hstep]
    exact errorTaken_of_readable e (hread.of_sameButWork (attempt_frame h))

/-- Over a readable buffer a `STEP` in a decoding state runs an attempt, in the same `STATE`, and resolves it. -/
theorem step_attempts {s : State} (hread : Readable s) (hdecoding : s.phase.decoding = true) :
    ∃ t r, attempt (descriptorOf s.fmt) s = .ok (t, r) ∧ SameButWork s t ∧ t.phase = s.phase ∧
      StepResolves s t r := by
  obtain ⟨t, r, h⟩ := attempt_answers (descriptorOf_wf s.fmt) hread
  have hframe := attempt_frame h
  exact ⟨t, r, h, hframe, hframe.control.1, stepResolves_of_attempt hread hdecoding h⟩

/-- Settles O35, by the result of the attempt. -/
theorem stepInDecodingFwd : Obligations.StepInDecodingFwd := by
  intro s hread hphase
  obtain ⟨t, r, hattempt, hframe, hkept, hstep⟩ := step_attempts hread (by rw [hphase]; rfl)
  refine ⟨t, r, hattempt, hframe, ?_⟩
  cases r with
  | ok c => exact hstep.1 (hkept.trans hphase)
  | err e info => exact hstep.1 (hkept.trans hphase)

/-- Settles O36, by the result of the attempt. -/
theorem stepInDecodingRev : Obligations.StepInDecodingRev := by
  intro s hread hphase
  obtain ⟨t, r, hattempt, hframe, hkept, hstep⟩ := step_attempts hread (by rw [hphase]; rfl)
  refine ⟨t, r, hattempt, hframe, ?_⟩
  cases r with
  | ok c => exact hstep.2 (hkept.trans hphase)
  | err e info => exact hstep.2 (hkept.trans hphase)

/-! ### The moves of `STATE` -/

/-- The moves out of the decoding states, each to its two outcomes (R193), where `i` ends the attempt. -/
def OutcomeReached (i : Instr) (s t : State) : Prop :=
  (EndsAttempt i s ∧ s.phase = .decodingFwd ∧ (t.phase = .successFwd ∨ t.phase = .decodingRev)) ∨
  (EndsAttempt i s ∧ s.phase = .decodingRev ∧ (t.phase = .successRev ∨ t.phase = .failure))

theorem AttemptResolved.outcome {i : Instr} {s t : State} (h : AttemptResolved s t)
    (hends : EndsAttempt i s) : OutcomeReached i s t := by
  obtain ⟨hdecoding, u, r, hsu, hr⟩ := h
  have hkept := hsu.control.1
  rw [← hkept] at hdecoding
  unfold OutcomeReached
  rw [← hkept]
  rcases resolveAttempt_cases hdecoding hr with
    ⟨c, -, hp, rfl⟩ | ⟨c, -, hp, rfl⟩ | ⟨e, info, v, -, hp, -, rfl⟩ | ⟨e, info, -, hp, rfl⟩
  · exact .inl ⟨hends, hp, .inl rfl⟩
  · exact .inr ⟨hends, hp, .inl rfl⟩
  · exact .inl ⟨hends, hp, .inr rfl⟩
  · exact .inr ⟨hends, hp, .inr rfl⟩

theorem mem_rows_of_isSymbol {i : Instr} (h : isSymbol i = true) : i ∈ sym5Rows ∨ i ∈ sym7Rows := by
  have hdecode := decode_encode_symbol i h
  unfold isSymbol at h
  cases hcode : encode i with
  | event w =>
    rw [hcode] at h
    cases h
  | sym5 v =>
    rw [hcode] at hdecode
    obtain rfl : decodeSym5 v = i := by simpa [decode] using hdecode
    rw [decodeSym5, List.getD_eq_getElem _ _ (sym5Rows_length ▸ v.isLt)]
    exact .inl (List.getElem_mem _)
  | sym7 v =>
    rw [hcode] at hdecode
    obtain rfl : decodeSym7 v = i := by simpa [decode] using hdecode
    rw [decodeSym7, List.getD_eq_getElem _ _ (sym7Rows_length ▸ v.isLt)]
    exact .inr (List.getElem_mem _)

/-- A symbol that changes anything belongs to the format being demodulated: elsewhere it changes nothing (O43). -/
theorem endsAttempt_of_symbol {i : Instr} (hsymbol : isSymbol i = true) {s t : State}
    (h : exec i s = .next t) (hchange : t ≠ s) : EndsAttempt i s := by
  obtain ⟨helsewhere5, helsewhere7⟩ := symbolsElsewhereChangeNothing s
  have hmoves : exec i s ≠ .next s := by
    rw [h]
    exact fun hsame => hchange (Host.Outcome.next.inj hsame)
  rcases mem_rows_of_isSymbol hsymbol with hrow | hrow
  · have hreads := not_or.1 fun hd => hmoves (helsewhere5 hd i hrow)
    exact .inr ⟨by simpa using hreads.1, .inl ⟨not_not.1 hreads.2, hrow⟩⟩
  · have hreads := not_or.1 fun hd => hmoves (helsewhere7 hd i hrow)
    exact .inr ⟨by simpa using hreads.1, .inr ⟨not_not.1 hreads.2, hrow⟩⟩

/-- Settles O50, instruction class by instruction class. -/
theorem stateMovesAsTabulated : Obligations.StateMovesAsTabulated := by
  intro i s t h hmove
  rcases instr_cases i with
    ⟨fmt, rfl⟩ | rfl | ⟨n, rfl⟩ | rfl | rfl | ⟨b, rfl⟩ | rfl | rfl | hsymbol
  · rcases execBegin_cases h with ⟨-, -, rfl⟩ | ⟨-, rfl⟩ <;> exact absurd rfl hmove
  · cases h
    exact absurd rfl hmove
  · rcases execSetlim_cases h with ⟨-, rfl⟩ | ⟨-, rfl⟩ <;> exact absurd rfl hmove
  · rcases execCardOn_cases h with ⟨-, rfl⟩ | ⟨hcard, hquiet, rfl⟩ | ⟨-, -, rfl⟩
    · exact absurd rfl hmove
    · exact .inr (.inl ⟨rfl, hcard, hquiet, rfl⟩)
    · exact absurd rfl hmove
  · rcases execCardOff_cases h with ⟨hcard, hphase, rfl⟩ | ⟨-, rfl⟩
    · exact .inr (.inr (.inl ⟨rfl, hcard, hphase, rfl⟩))
    · exact absurd rfl hmove
  · rcases execBit_cases h with rfl | ⟨-, -, happend⟩ | ⟨-, -, rfl⟩
    · exact absurd rfl hmove
    · exact absurd (by rw [append_frame happend]) hmove
    · exact absurd rfl hmove
  · rcases execStep_resolves h with ⟨hphase, rfl⟩ | hresolved | ⟨-, rfl⟩
    · exact .inr (.inr (.inr (.inl ⟨rfl, hphase, rfl⟩)))
    · exact .inr (.inr (.inr (.inr (hresolved.outcome (.inl rfl)))))
    · exact absurd rfl hmove
  · cases h
    exact .inl ⟨rfl, rfl⟩
  · have hends := endsAttempt_of_symbol hsymbol h fun hsame => hmove (congrArg State.phase hsame)
    obtain ⟨fmt, sym, hturn⟩ := exec_symbol i hsymbol
    rw [hturn] at h
    rcases symbolTurn_goes_on_or_resolves h with hframe | hresolved
    · exact absurd hframe.control.1 hmove
    · exact .inr (.inr (.inr (.inr (hresolved.outcome hends))))

end Sys2Proof.Machine
end

section
/-! SUPPORT. The decode as a whole (R190, R191): `RESOLVE` is a function of what one attempt reads in the bits and what
one reads in their reverse, and the bits reversed exchange the two. -/

namespace Sys2Proof.Machine

/-! ### Engine steps -/

theorem engineSteps_succ {n : Nat} {s t : State} (h : exec .step s = .next t) :
    engineSteps (n + 1) s = engineSteps n t := by
  have hstep : execStep s = .next t := h
  rw [engineSteps, hstep, andThen]

/-- The state in which the second attempt starts: after an attempt that has left `t` the code is recorded and `m` holds
the buffer reversed (R186). -/
def retryState (e : ErrCode) (m : Cells 1) (t : State) : State :=
  { t with errFwd := e, bits := m, phase := .decodingRev, engine := .atRest }

theorem Readable.after_retry {t : State} {m : Cells 1} (hread : Readable t) (hm : ReversedPrefix t m)
    (e : ErrCode) : Readable (retryState e m t) := by
  obtain ⟨hbelow, -⟩ := hm
  refine ⟨hread.lenCap, fun i (hi : i < t.len.toNat) => ?_⟩
  show (Memory.read? m i).isSome = true
  rw [hbelow i hi]
  exact hread.cells _ (by omega)

/-- Settles O52: the first step enters `DECODING_FWD`, the next two are those of R186 and R187. -/
theorem twoOrThreeStepsReachATerminalState : Obligations.TwoOrThreeStepsReachATerminalState := by
  intro s hread hphase
  have hfirst : exec .step s = .next { s with phase := .decodingFwd } := exec_step_captureComplete hphase
  have hread' : Readable { s with phase := .decodingFwd } := ⟨hread.lenCap, hread.cells⟩
  obtain ⟨v, r, hattempt, hframe, hsecond⟩ := stepInDecodingFwd _ hread' rfl
  refine ⟨engineSteps_succ hfirst, v, r, ?_⟩
  cases r with
  | ok c => exact ⟨_, hattempt, (engineSteps_succ hfirst).trans (engineSteps_succ hsecond), rfl⟩
  | err e info =>
    obtain ⟨m, hm, hsecond⟩ := hsecond
    refine ⟨_, hattempt, (engineSteps_succ hfirst).trans (engineSteps_succ hsecond), rfl, ?_⟩
    obtain ⟨w, q, -, -, hthird⟩ :=
      stepInDecodingRev _ ((hread'.of_sameButWork hframe).after_retry hm e) rfl
    have hlast : ∀ u, exec .step (retryState e m v) = .next u → engineSteps 3 s = .next u := fun u hu =>
      (engineSteps_succ hfirst).trans ((engineSteps_succ hsecond).trans (engineSteps_succ hu))
    cases q with
    | ok c => exact ⟨_, hlast _ hthird, .inl rfl⟩
    | err e' info' => exact ⟨_, hlast _ hthird, .inr rfl⟩

/-! ### What one attempt reads -/

/-- What an attempt makes of a buffer: the length and the characters of a record, or the code of an error. -/
inductive Reading where
  | record (count : BitVec 8) (chars : List Char8)
  | failed (e : ErrCode)

/-- The reading in what an attempt has answered. -/
def readingOf (t : State) : AttemptResult → Reading
  | .ok c => .record c (recordChars { t with count := c })
  | .err e _ => .failed e

/-- An attempt under `F` reads `x` in the buffer of `s`. -/
def Reads (F : Descriptor) (s : State) (x : Reading) : Prop :=
  ∃ t r, attempt F s = .ok (t, r) ∧ readingOf t r = x

/-- The reading depends on the buffer alone (R181). -/
theorem Reads.of_sameBuffer {F : Descriptor} {s u : State} {x : Reading} (h : Reads F s x)
    (hsu : SameBuffer s u) : Reads F u x := by
  obtain ⟨t, r, ht, rfl⟩ := h
  obtain ⟨v, hv, hchars⟩ := attempt_lockstep hsu ht
  refine ⟨v, r, hv, ?_⟩
  cases r with
  | ok c =>
    refine congrArg (Reading.record c) (List.filterMap_congr fun j hj => ?_)
    exact hchars c rfl j (List.mem_range.1 hj).le
  | err e info => rfl

theorem SameBuffer.bufferBits {s u : State} (h : SameBuffer s u) : bufferBits u = bufferBits s := by
  unfold Machine.bufferBits
  rw [h.len]
  exact List.filterMap_congr fun i hi => h.cells i (List.mem_range.1 hi)

theorem SameButWork.sameBuffer {s t : State} (h : SameButWork s t) : SameBuffer s t := by
  obtain ⟨hbits, hlen, -, hlimit, -⟩ := h.buffer
  exact ⟨hlen, hlimit, fun i _ => by rw [hbits]⟩

theorem SameButWork.codes {s t : State} (h : SameButWork s t) :
    t.errFwd = s.errFwd ∧ t.errRev = s.errRev := by
  unfold SameButWork at h
  rw [h]
  exact ⟨rfl, rfl⟩

/-! ### `RESOLVE` by its two readings -/

/-- The tuple of R191, from what an attempt reads in the bits and what one reads in their reverse. -/
def resolvedBy (bits : List Bit) : Reading → Reading → Resolved
  | .record c chars, _ =>
    { ok := true, dir := .forward, count := c, chars := chars, errFwd := .noError, errRev := .noError,
      bits := bits }
  | .failed e, .record c chars =>
    { ok := true, dir := .backward, count := c, chars := chars, errFwd := e, errRev := .noError,
      bits := bits.reverse }
  | .failed e, .failed e' =>
    { ok := false, dir := .unknown, count := 0, chars := [], errFwd := e, errRev := e',
      bits := bits.reverse }

/-- The reversed buffer is the buffer of the reversed bits. -/
theorem sameBuffer_of_reversedPrefix {cfg : Config} {bs : List Bit} {fmt : Format} {limit : BitVec 8} {t : State}
    (hcfg : cfg.wf = true) (hcap : bs.length ≤ cfg.bufCap)
    (ht : SameBuffer (capturedState cfg bs fmt limit) t) {u : State} (hm : ReversedPrefix t u.bits)
    (hlen : u.len = t.len) (hlimit : u.sizeLimit = t.sizeLimit) :
    SameBuffer (capturedState cfg bs.reverse fmt limit) u := by
  have hholds := capturedState_holds fmt limit hcfg hcap
  have hholds' := capturedState_holds (bs := bs.reverse) fmt limit hcfg (by rwa [List.length_reverse])
  have hcount : t.len.toNat = bs.length := by rw [ht.len, hholds.len]
  refine ⟨?_, hlimit.trans ht.sizeLimit, fun i hi => ?_⟩
  · rw [hlen, ht.len]
    simp [capturedState]
  · rw [hholds'.len, List.length_reverse] at hi
    rw [hm.1 i (by omega), hcount, ht.cells _ (by rw [hholds.len]; omega), hholds.read?, hholds'.read?,
      List.getElem?_reverse hi]

/-- `RESOLVE` answers what three engine steps leave. -/
theorem resolve_of_engineSteps {cfg : Config} {bits : List Bit} {fmt : Format} {limit : BitVec 8} {t : State}
    (h : engineSteps 3 (capturedState cfg bits fmt limit) = .next t) :
    resolve cfg bits fmt limit = some (resolvedOf t) := by
  rw [resolve, h]

/-- The last step after a failed attempt: the tuple is that of the second reading (R187). -/
theorem retry_resolvedBy {bits : List Bit} {u : State} {y : Reading} (hread : Readable u)
    (hphase : u.phase = .decodingRev) (hbits : bufferBits u = bits.reverse)
    (hy : Reads (descriptorOf u.fmt) u y) :
    ∃ w, exec .step u = .next w ∧ resolvedOf w = resolvedBy bits (.failed u.errFwd) y := by
  obtain ⟨v, r, hv, rfl⟩ := hy
  have hframe := attempt_frame hv
  obtain ⟨hcode, -⟩ := hframe.codes
  have hkept : v.phase = .decodingRev := hframe.control.1.trans hphase
  have hbits' : bufferBits v = bits.reverse := hframe.sameBuffer.bufferBits.trans hbits
  have hstep := stepResolves_of_attempt hread (by rw [hphase]; rfl) hv
  rw [← hcode]
  cases r with
  | ok c => exact ⟨_, hstep.2 hkept, by rw [readingOf, resolvedBy, ← hbits']; rfl⟩
  | err e info => exact ⟨_, hstep.2 hkept, by rw [readingOf, resolvedBy, ← hbits']; rfl⟩

/-- `RESOLVE` is made of the reading of the bits and, where that failed, the reading of their reverse. -/
theorem resolve_eq_resolvedBy {cfg : Config} {bits : List Bit} {fmt : Format} {limit : BitVec 8} {x y : Reading}
    (hcfg : cfg.wf = true) (hcap : bits.length ≤ cfg.bufCap)
    (hx : Reads (descriptorOf fmt) (capturedState cfg bits fmt limit) x)
    (hy : Reads (descriptorOf fmt) (capturedState cfg bits.reverse fmt limit) y) :
    resolve cfg bits fmt limit = some (resolvedBy bits x y) := by
  have hcap' : bits.reverse.length ≤ cfg.bufCap := by rwa [List.length_reverse]
  have hholds := capturedState_holds fmt limit hcfg hcap
  have hread : Readable (setPhase .decodingFwd (capturedState cfg bits fmt limit)) :=
    ⟨(hholds.readable hcap).lenCap, (hholds.readable hcap).cells⟩
  have hsame : SameBuffer (capturedState cfg bits fmt limit)
      (setPhase .decodingFwd (capturedState cfg bits fmt limit)) := ⟨rfl, rfl, fun _ _ => rfl⟩
  obtain ⟨t, r, ht, rfl⟩ := hx.of_sameBuffer hsame
  have hframe := attempt_frame ht
  obtain ⟨-, hcode⟩ := hframe.codes
  obtain ⟨-, -, hfmt, -, -⟩ := hframe.buffer
  have hsame' : SameBuffer (capturedState cfg bits fmt limit) t :=
    hsame.of_sameButWork (.refl _) hframe
  cases r with
  | ok c =>
    have hbits : bufferBits (enterSuccessFwd c t) = bits := hsame'.bufferBits.trans hholds.bufferBits
    rw [resolve_of_attempt ht, resolvedOf, hbits, enterSuccessFwd_errRev, hcode]
    rfl
  | err e info =>
    obtain ⟨m, hm, hsecond⟩ := (stepResolves_of_attempt hread rfl ht).1 hframe.control.1
    have hreversed := sameBuffer_of_reversedPrefix hcfg hcap hsame' (u := retryState e m t) hm rfl rfl
    have hbits : bufferBits (retryState e m t) = bits.reverse :=
      hreversed.bufferBits.trans (capturedState_holds fmt limit hcfg hcap').bufferBits
    have hreads : Reads (descriptorOf t.fmt) (retryState e m t) y := by
      rw [hfmt]
      exact hy.of_sameBuffer hreversed
    obtain ⟨w, hthird, hw⟩ :=
      retry_resolvedBy ((hread.of_sameButWork hframe).after_retry hm e) rfl hbits hreads
    have hsteps : engineSteps 3 (capturedState cfg bits fmt limit) = .next w :=
      (engineSteps_succ rfl).trans ((engineSteps_succ hsecond).trans (engineSteps_succ hthird))
    rw [resolve_of_engineSteps hsteps, hw]
    rfl

theorem exists_reads {cfg : Config} {bits : List Bit} (fmt : Format) (limit : BitVec 8)
    (hcfg : cfg.wf = true) (hcap : bits.length ≤ cfg.bufCap) :
    ∃ x, Reads (descriptorOf fmt) (capturedState cfg bits fmt limit) x := by
  have hread := (capturedState_holds fmt limit hcfg hcap).readable hcap
  obtain ⟨t, r, ht⟩ := attempt_answers (descriptorOf_wf fmt) hread
  exact ⟨readingOf t r, t, r, ht, rfl⟩

/-- Resolving the bits and resolving their reverse use the same two readings, in exchanged places. -/
theorem exists_resolvedBy {cfg : Config} {bits : List Bit} (fmt : Format) (limit : BitVec 8)
    (hcfg : cfg.wf = true) (hcap : bits.length ≤ cfg.bufCap) :
    ∃ x y, resolve cfg bits fmt limit = some (resolvedBy bits x y) ∧
      resolve cfg bits.reverse fmt limit = some (resolvedBy bits.reverse y x) := by
  have hcap' : bits.reverse.length ≤ cfg.bufCap := by rwa [List.length_reverse]
  obtain ⟨x, hx⟩ := exists_reads fmt limit hcfg hcap
  obtain ⟨y, hy⟩ := exists_reads fmt limit hcfg hcap'
  refine ⟨x, y, resolve_eq_resolvedBy hcfg hcap hx hy, resolve_eq_resolvedBy hcfg hcap' hy ?_⟩
  rwa [List.reverse_reverse]

/-! ### The obligations about `RESOLVE` -/

/-- Settles O53: both readings exist, and the tuple has `OK` where one of them is a record. -/
theorem resolveAlwaysAnswers : Obligations.ResolveAlwaysAnswers := by
  intro cfg bits fmt limit hcfg hcap
  obtain ⟨x, y, hbits, -⟩ := exists_resolvedBy fmt limit hcfg hcap
  refine ⟨_, hbits, ?_⟩
  cases x with
  | record c chars => simp [resolvedBy]
  | failed e => cases y <;> simp [resolvedBy]

/-- Settles O54: the final buffer is the bits after a forward record, and their reverse otherwise. -/
theorem decodingTheFinalBufferAgain : Obligations.DecodingTheFinalBufferAgain := by
  intro cfg bits fmt limit r hcfg hcap hr
  obtain ⟨x, y, hbits, hreverse⟩ := exists_resolvedBy fmt limit hcfg hcap
  obtain rfl : resolvedBy bits x y = r := Option.some.inj (hbits.symm.trans hr)
  cases x with
  | record c chars => exact ⟨fun _ => ⟨rfl, hbits⟩, nofun, nofun⟩
  | failed e =>
    cases y with
    | record c chars => exact ⟨nofun, fun _ => ⟨rfl, hreverse⟩, nofun⟩
    | failed e' =>
      refine ⟨nofun, nofun, fun _ => ⟨rfl, hreverse.trans ?_⟩⟩
      simp only [resolvedBy, List.reverse_reverse]

/-- Settles O55: the reverse of the reversed bits is read as the bits were. -/
theorem backwardSwipeGivesTheSameRecord : Obligations.BackwardSwipeGivesTheSameRecord := by
  intro cfg bits fmt limit r q hcfg hcap hr hforward hq hfails
  obtain ⟨x, y, hbits, hreverse⟩ := exists_resolvedBy fmt limit hcfg hcap
  obtain rfl : resolvedBy bits x y = r := Option.some.inj (hbits.symm.trans hr)
  obtain rfl : resolvedBy bits.reverse y x = q := Option.some.inj (hreverse.symm.trans hq)
  cases y with
  | record c chars => exact absurd rfl hfails
  | failed e =>
    cases x with
    | record c chars => simp only [resolvedBy, List.reverse_reverse]
    | failed e' => cases hforward

end Sys2Proof.Machine
end

section
/-! SUPPORT. The protocol-violation flag (R226) and the events of one instant (R225). -/

namespace Sys2Proof.Machine

/-! ### The causes of `HAZ` -/

/-- The complete list of causes of R226. -/
def HazardCause (i : Instr) (s : State) : Prop :=
  (∃ fmt, i = .beginFmt fmt ∧ (s.phase.quiet = false ∨ s.armed = true)) ∨
  (∃ n, i = .setlim n ∧ s.phase.quiet = false) ∨
  (∃ b, i = .bit b ∧ s.armed = true ∧ s.phase.busy = true) ∨
  (i = .cardOn ∧ s.card = false ∧ s.phase.busy = true)

@[simp] theorem hazardCause_beginFmt (fmt : Format) (s : State) :
    HazardCause (.beginFmt fmt) s ↔ s.phase.quiet = false ∨ s.armed = true := by
  simp [HazardCause]

@[simp] theorem hazardCause_setlim (n : BitVec 8) (s : State) :
    HazardCause (.setlim n) s ↔ s.phase.quiet = false := by
  simp [HazardCause]

@[simp] theorem hazardCause_bit (b : Bit) (s : State) :
    HazardCause (.bit b) s ↔ s.armed = true ∧ s.phase.busy = true := by
  simp [HazardCause]

@[simp] theorem hazardCause_cardOn (s : State) :
    HazardCause .cardOn s ↔ s.card = false ∧ s.phase.busy = true := by
  simp [HazardCause]

@[simp] theorem not_hazardCause_stop (s : State) : ¬ HazardCause .stop s := by
  simp [HazardCause]

@[simp] theorem not_hazardCause_cardOff (s : State) : ¬ HazardCause .cardOff s := by
  simp [HazardCause]

@[simp] theorem not_hazardCause_step (s : State) : ¬ HazardCause .step s := by
  simp [HazardCause]

@[simp] theorem not_hazardCause_hreset (s : State) : ¬ HazardCause .hreset s := by
  simp [HazardCause]

theorem not_hazardCause_of_isSymbol {i : Instr} (h : isSymbol i = true) (s : State) :
    ¬ HazardCause i s := by
  rintro (⟨fmt, rfl, -⟩ | ⟨n, rfl, -⟩ | ⟨b, rfl, -⟩ | ⟨rfl, -⟩)
  · cases fmt <;> cases h
  all_goals cases h

/-! ### What a next state shows of them -/

/-- After `i` the flag shows exactly whether `i` was a cause, and a cause is otherwise dropped (R226), but for the level
that `CARDON` latches. -/
def HazardShown (i : Instr) (s t : State) : Prop :=
  (t.haz = true ↔ HazardCause i s) ∧ (t.haz = true → t = { s with haz := true, card := t.card })

theorem HazardShown.of_cause {i : Instr} {s t : State} (hcause : HazardCause i s)
    (ht : t = { s with haz := true, card := t.card }) : HazardShown i s t :=
  ⟨⟨fun _ => hcause, fun _ => congrArg State.haz ht⟩, fun _ => ht⟩

theorem HazardShown.of_no_cause {i : Instr} {s t : State} (hcause : ¬ HazardCause i s)
    (hclear : t.haz = false) : HazardShown i s t := by
  have hnot : ¬ t.haz = true := by simp [hclear]
  exact ⟨⟨fun h => absurd h hnot, fun h => absurd h hcause⟩, fun h => absurd h hnot⟩

theorem Phase.busy_of_not_quiet {p : Phase} (hquiet : p.quiet = false) (hp : p ≠ .capturing) :
    p.busy = true := by
  cases p
  case capturing => exact absurd rfl hp
  case captureComplete | decodingFwd | decodingRev => rfl
  all_goals cases hquiet

theorem SameButWork.haz {s t : State} (h : SameButWork s t) : t.haz = s.haz := by
  unfold SameButWork at h
  rw [h]

/-- An attempt sets no flag, however it is resolved. -/
theorem AttemptResolved.haz {s t : State} (h : AttemptResolved s t) : t.haz = s.haz := by
  obtain ⟨hdecoding, u, r, hsu, hr⟩ := h
  rw [← hsu.control.1] at hdecoding
  rw [← hsu.haz]
  rcases resolveAttempt_cases hdecoding hr with
    ⟨c, -, -, rfl⟩ | ⟨c, -, -, rfl⟩ | ⟨e, info, v, -, -, hreverse, rfl⟩ | ⟨e, info, -, -, rfl⟩
  case inr.inr.inl =>
    rw [enterReversed_haz, reverse_frame hreverse]
    rfl
  all_goals rfl

/-! ### The events that have a cause -/

section
variable {s t : State} (hclear : s.haz = false)
include hclear

theorem hazardShown_beginFmt {fmt : Format} (h : exec (.beginFmt fmt) s = .next t) :
    HazardShown (.beginFmt fmt) s t := by
  rcases execBegin_cases h with ⟨hquiet, harmed, rfl⟩ | ⟨hrefused, rfl⟩
  · exact .of_no_cause (by simp [hquiet, harmed]) hclear
  · have hcause : s.phase.quiet = false ∨ s.armed = true := by
      simpa [← Bool.not_eq_true, or_iff_not_imp_left] using hrefused
    exact .of_cause (by simpa using hcause) rfl

theorem hazardShown_setlim {n : BitVec 8} (h : exec (.setlim n) s = .next t) :
    HazardShown (.setlim n) s t := by
  rcases execSetlim_cases h with ⟨hquiet, rfl⟩ | ⟨hquiet, rfl⟩
  · exact .of_no_cause (by simp [hquiet]) hclear
  · exact .of_cause (by simpa using hquiet) rfl

theorem hazardShown_bit {b : Bit} (h : exec (.bit b) s = .next t) : HazardShown (.bit b) s t := by
  by_cases hcause : HazardCause (.bit b) s
  · obtain ⟨harmed, hbusy⟩ := (hazardCause_bit b s).1 hcause
    rw [exec_bit_busy b harmed hbusy] at h
    cases h
    exact .of_cause hcause rfl
  · refine .of_no_cause hcause ?_
    rcases execBit_cases h with rfl | ⟨-, -, happend⟩ | ⟨harmed, hbusy, -⟩
    · exact hclear
    · rw [append_frame happend]
      exact hclear
    · exact absurd ((hazardCause_bit b s).2 ⟨harmed, hbusy⟩) hcause

/-- `CARDON` finds `CARD = 0` in a quiet or a busy state only: in `CAPTURING` the card is present (R40 item 2). -/
theorem hazardShown_cardOn (hcapturing : s.phase = .capturing → s.card = true)
    (h : exec .cardOn s = .next t) : HazardShown .cardOn s t := by
  rcases execCardOn_cases h with ⟨hcard, rfl⟩ | ⟨-, hquiet, rfl⟩ | ⟨hcard, hquiet, rfl⟩
  · exact .of_no_cause (by simp [hcard]) hclear
  · refine .of_no_cause (fun hcause => ?_) hclear
    have hbusy := ((hazardCause_cardOn s).1 hcause).2
    simp [Phase.quiet_eq_false_of_busy hbusy] at hquiet
  · have hphase : s.phase ≠ .capturing := fun hp => by simp [hcapturing hp] at hcard
    exact .of_cause ((hazardCause_cardOn s).2 ⟨hcard, Phase.busy_of_not_quiet hquiet hphase⟩) rfl

/-! ### The events that have none -/

theorem execCardOff_haz (h : execCardOff s = .next t) : t.haz = false := by
  rcases execCardOff_cases h with ⟨-, -, rfl⟩ | ⟨-, rfl⟩ <;> exact hclear

theorem execStep_haz (h : execStep s = .next t) : t.haz = false := by
  rcases execStep_resolves h with ⟨-, rfl⟩ | hresolved | ⟨-, rfl⟩
  · exact hclear
  · exact hresolved.haz.trans hclear
  · exact hclear

theorem symbolTurn_haz {fmt : Format} {sym : BitVec 8} (h : symbolTurn fmt sym s = .next t) :
    t.haz = false := by
  rcases symbolTurn_goes_on_or_resolves h with hframe | hresolved
  · exact hframe.haz.trans hclear
  · exact hresolved.haz.trans hclear

end

/-- Settles O49, instruction class by instruction class: four of them have a cause. -/
theorem hazHasFourCauses : Obligations.HazHasFourCauses := by
  intro i s t hcapturing hclear h
  show HazardShown i s t
  rcases instr_cases i with
    ⟨fmt, rfl⟩ | rfl | ⟨n, rfl⟩ | rfl | rfl | ⟨b, rfl⟩ | rfl | rfl | hsymbol
  · exact hazardShown_beginFmt hclear h
  · cases h
    exact .of_no_cause (not_hazardCause_stop s) hclear
  · exact hazardShown_setlim hclear h
  · exact hazardShown_cardOn hclear hcapturing h
  · exact .of_no_cause (not_hazardCause_cardOff s) (execCardOff_haz hclear h)
  · exact hazardShown_bit hclear h
  · exact .of_no_cause (not_hazardCause_step s) (execStep_haz hclear h)
  · cases h
    exact .of_no_cause (not_hazardCause_hreset s) rfl
  · obtain ⟨fmt, sym, hturn⟩ := exec_symbol i hsymbol
    rw [hturn] at h
    exact .of_no_cause (not_hazardCause_of_isSymbol hsymbol s) (symbolTurn_haz hclear h)

/-! ### The events of one instant -/

theorem commandInstr_injective : Function.Injective commandInstr := by
  intro c d h
  cases c <;> cases d <;> cases h <;> rfl

theorem edgeInstr_injective : Function.Injective edgeInstr := by
  intro e f h
  cases e <;> cases f <;> cases h <;> rfl

/-- No other port carries a command's event. -/
theorem commandInstr_ne (c : Command) :
    commandInstr c ≠ .hreset ∧ (∀ e, commandInstr c ≠ edgeInstr e) ∧ (∀ b, commandInstr c ≠ .bit b) ∧
      commandInstr c ≠ .step := by
  refine ⟨?_, fun e => ?_, fun b => ?_, ?_⟩
  case refine_2 => cases e <;> cases c <;> nofun
  all_goals cases c <;> nofun

/-- No other port carries an edge's event. -/
theorem edgeInstr_ne (e : CardEdge) :
    edgeInstr e ≠ .hreset ∧ (∀ c, edgeInstr e ≠ commandInstr c) ∧ (∀ b, edgeInstr e ≠ .bit b) ∧
      edgeInstr e ≠ .step := by
  refine ⟨?_, fun c => ?_, fun b => ?_, ?_⟩
  case refine_2 =>
    obtain ⟨-, hedge, -⟩ := commandInstr_ne c
    exact (hedge e).symm
  all_goals cases e <;> nofun

/-- An instant's events are those its ports present. -/
theorem mem_serialise_iff (p : Instant) (i : Instr) :
    i ∈ serialise p ↔
      (p.hreset = true ∧ .hreset = i) ∨ (∃ c, p.command = some c ∧ commandInstr c = i) ∨
      (∃ e, p.card = some e ∧ edgeInstr e = i) ∨ (∃ b, p.capture = some b ∧ .bit b = i) ∨
      (p.engine = true ∧ .step = i) := by
  simp [serialise, eq_comm (a := i)]

theorem ite_singleton_sublist (present : Bool) (i : Instr) :
    (if present then [i] else []).Sublist [i] := by
  cases present
  · exact List.nil_sublist _
  · exact List.Sublist.refl _

theorem toList_map_sublist {α : Type} {o : Option α} {a : α} (f : α → Instr)
    (h : o = none ∨ o = some a) : (o.map f).toList.Sublist [f a] := by
  rcases h with rfl | rfl
  · exact List.nil_sublist _
  · exact List.Sublist.refl _

/-- The ports are read in the order of R225. -/
theorem serialise_sublist (p : Instant) {c : Command} {e : CardEdge} {b : Bit}
    (hcommand : p.command = none ∨ p.command = some c) (hcard : p.card = none ∨ p.card = some e)
    (hcapture : p.capture = none ∨ p.capture = some b) :
    (serialise p).Sublist [.hreset, commandInstr c, edgeInstr e, .bit b, .step] :=
  ((((ite_singleton_sublist p.hreset .hreset).append (toList_map_sublist commandInstr hcommand)).append
    (toList_map_sublist edgeInstr hcard)).append (toList_map_sublist Instr.bit hcapture)).append
    (ite_singleton_sublist p.engine .step)

/-- Settles O60: each port's events stand in its own place, and no other port presents them. -/
theorem simultaneousEventsAreSerialised : Obligations.SimultaneousEventsAreSerialised := by
  intro p c e b hcommand hcard hcapture
  refine ⟨serialise_sublist p hcommand hcard hcapture, ?_, ?_, ?_, ?_, ?_⟩
  · simp [mem_serialise_iff, commandInstr_ne, edgeInstr_ne]
  · simp [mem_serialise_iff, commandInstr_ne, edgeInstr_ne]
  · simp [mem_serialise_iff, commandInstr_ne, edgeInstr_ne]
  · obtain ⟨hreset, -, hbit, hstep⟩ := edgeInstr_ne e
    simp [mem_serialise_iff, commandInstr_ne, hreset.symm, (hbit _).symm, hstep.symm,
      edgeInstr_injective.eq_iff]
  · obtain ⟨hreset, -, hbit, hstep⟩ := commandInstr_ne c
    simp [mem_serialise_iff, edgeInstr_ne, hreset.symm, (hbit _).symm, hstep.symm,
      commandInstr_injective.eq_iff]

end Sys2Proof.Machine
end

section
/-! SUPPORT. The external reset (R240): what it writes, and what no other instruction does. -/

namespace Sys2Proof.Machine

theorem exec_hreset (s : State) : exec .hreset s = .next (scrambleWork (resetRegisters s)) := rfl

/-- No instruction but `HRESET` clears `HAZ`, instruction class by instruction class. -/
theorem exec_keeps_haz {i : Instr} {s t : State} (hi : i ≠ .hreset) (h : exec i s = .next t)
    (hset : s.haz = true) : t.haz = true := by
  rcases instr_cases i with
    ⟨fmt, rfl⟩ | rfl | ⟨n, rfl⟩ | rfl | rfl | ⟨b, rfl⟩ | rfl | rfl | hsymbol
  · rcases execBegin_cases h with ⟨-, -, rfl⟩ | ⟨-, rfl⟩
    · exact hset
    · exact markHaz_haz s
  · cases h
    exact hset
  · rcases execSetlim_cases h with ⟨-, rfl⟩ | ⟨-, rfl⟩
    · exact hset
    · exact markHaz_haz s
  · rcases execCardOn_cases h with ⟨-, rfl⟩ | ⟨-, -, rfl⟩ | ⟨-, -, rfl⟩
    · exact hset
    · exact hset
    · exact markHaz_haz _
  · rcases execCardOff_cases h with ⟨-, -, rfl⟩ | ⟨-, rfl⟩ <;> exact hset
  · rcases execBit_cases h with rfl | ⟨-, -, happend⟩ | ⟨-, -, rfl⟩
    · exact hset
    · rw [append_frame happend]
      exact hset
    · exact markHaz_haz s
  · rcases execStep_resolves h with ⟨-, rfl⟩ | hresolved | ⟨-, rfl⟩
    · exact hset
    · exact hresolved.haz.trans hset
    · exact hset
  · exact absurd rfl hi
  · obtain ⟨fmt, sym, hturn⟩ := exec_symbol i hsymbol
    rw [hturn] at h
    rcases symbolTurn_goes_on_or_resolves h with hframe | hresolved
    · exact hframe.haz.trans hset
    · exact hresolved.haz.trans hset

/-- Among the moves of `STATE` (O50), the one into `IDLE` is `HRESET`'s. -/
theorem exec_enters_idle {i : Instr} {s t : State} (hi : i ≠ .hreset) (h : exec i s = .next t)
    (hidle : t.phase = .idle) : s.phase = .idle := by
  by_contra hs
  have hmove : t.phase ≠ s.phase := fun hsame => hs (hsame.symm.trans hidle)
  rcases stateMovesAsTabulated i s t h hmove with
    ⟨hreset, -⟩ | ⟨-, -, -, hp⟩ | ⟨-, -, -, hp⟩ | ⟨-, -, hp⟩ | ⟨-, -, hp⟩ | ⟨-, -, hp⟩
  · exact hi hreset
  all_goals simp [hidle] at hp

/-- Settles O23: the registers are read off the state that `HRESET` writes. -/
theorem hresetGivesTheResetValues : Obligations.HresetGivesTheResetValues := by
  refine ⟨fun s => ⟨_, exec_hreset s, ?_⟩, fun i s t hi h => ⟨exec_keeps_haz hi h, exec_enters_idle hi h⟩⟩
  exact ⟨rfl, rfl, rfl, rfl, rfl, rfl, rfl, rfl, rfl, rfl, rfl, rfl, rfl⟩

end Sys2Proof.Machine
end
